-- ==== Sys2Proof/Word.lean ====
section
/-! DEFINITION. The words of the RTB synchronous FIFO controller: an element, a slot with its number,
the five-bit command word, a byte of the byte form of a command word. -/

namespace Sys2Proof

/-- An element (R8, R41): an opaque vector of `W` bits, moved whole and never computed on, compared or split.
It is written as the unsigned number of its bits; that it fits in `W` bits is part of the invariant
(`State.Inv`), because `W` is a parameter of the instance and not a fixed width (log entry 6). -/
abbrev Elem := Nat

/-- One storage slot: its number (R21, R45: the only kind of address) and the element it holds. -/
abbrev Slot := Nat × Elem

/-- The command word of one cycle, `cw[4:0]` (R61). -/
abbrev CommandWord := BitVec 5

/-- One byte of a command word written out as bytes (log entry 9). -/
abbrev Byte := BitVec 8

end Sys2Proof
end

