-- ==== Sys2Proof/Config.lean ====
section
/-! DEFINITION. What an instance of the block fixes when it is built (R7 to R10), and the values the spec leaves
free: constants with no body, of which no proof can see a value. -/

namespace Sys2Proof

/-- `VIEW_MODE` (R10): which value of the other side's cursor a side's test sees. -/
inductive ViewMode where
  | direct    -- DIRECT: the other cursor register itself
  | external  -- EXTERNAL: a port the environment drives
  deriving DecidableEq, Repr

/-- The build-time parameters of an instance (R7, R8, R10, U8). They never change during a run (R173). -/
structure Params where
  /-- the number of storage slots (R7) -/
  S : Nat
  /-- the width of an element in bits (R8) -/
  W : Nat
  /-- `VIEW_MODE` (R10) -/
  viewMode : ViewMode
  deriving DecidableEq, Repr

namespace Config

/-- The instance `State.reset` is built with. DESIGN CHOICE (log entry 1): the spec gives `S` and `W` no default;
`S = 4`, `W = 8` is the instance of its programs (95_test_vectors.md part 3), and `VIEW_MODE` has the default
`DIRECT` (R10). Statements are about every instance, never about this one. -/
def resetParams : Params := { S := 4, W := 8, viewMode := .direct }

/-- The free fill value of the construction that precedes the reset state (R34, U10), for a width `w`. -/
opaque resetFill (w : Nat) : BitVec w

/-- The free value `any` on `rd_data_o` in a cycle that delivers nothing (R66, U3): the `n`-th draw. -/
opaque anyElem (w n : Nat) : BitVec w

/-- The environment's free choice of the command word of a cycle (R28, R148): the `n`-th draw. -/
opaque envCommand (n : Nat) : CommandWord

/-- The environment's free choice of `fill_i`: the `n`-th draw. -/
opaque envFill (w n : Nat) : BitVec w

/-- The environment's free choice of `wr_data_i`: the `n`-th draw. -/
opaque envWrData (w n : Nat) : BitVec w

/-- The environment's free choice of `rptr_view_i`, a port of `aw` bits: the `n`-th draw. -/
opaque envRptrView (aw n : Nat) : BitVec aw

/-- The environment's free choice of `wptr_view_i`, a port of `aw` bits: the `n`-th draw. -/
opaque envWptrView (aw n : Nat) : BitVec aw

end Config
end Sys2Proof
end

