-- ==== Sys2Proof/Machine/Width.lean ====
section
/-! DEFINITION. The width of a cursor and of every port that carries a cursor value. -/

namespace Sys2Proof

/-- The base-two logarithm rounded up, for `1 ≤ n`. -/
def ceilLog2 (n : Nat) : Nat := if n ≤ 1 then 0 else Nat.log2 (n - 1) + 1

/-- `AW = max(1, ceil(log2(S)))` (R9). -/
def Params.AW (p : Params) : Nat := max 1 (ceilLog2 p.S)

end Sys2Proof
end

