-- ==== Sys2Proof/Syntax.lean ====
section
/-! DEFINITION. The commands, the formats of the command table, the commands of one cycle, and the values on the
input ports in one cycle. -/

namespace Sys2Proof

/-- The seven commands: one constructor for each row of spec/opcode_table.json. A command has no field: its operands
are whole ports (R65), which the state holds. -/
inductive Instr where
  | new            -- NEW, R80
  | wnop           -- WNOP, R113
  | write          -- WRITE, R90
  | writeUnchecked -- WRITE_UNCHECKED, R100
  | rnop           -- RNOP, R114
  | read           -- READ, R91
  | readUnchecked  -- READ_UNCHECKED, R101
  deriving DecidableEq, Repr

/-- The three fields of the command word (R61): `SYS` is `cw[4]`, `R` is `cw[3:2]`, `W` is `cw[1:0]`. -/
inductive Format where
  | sys
  | w
  | r
  deriving DecidableEq, Repr

/-- The format of a command, as the command table gives it (R62 to R64, R68). -/
def Instr.format : Instr → Format
  | .new => .sys
  | .wnop => .w
  | .write => .w
  | .writeUnchecked => .w
  | .rnop => .r
  | .read => .r
  | .readUnchecked => .r

/-- What one command word asks for (R61): one command of format `SYS`, or one write-side and one read-side command,
performed in the same cycle. -/
inductive Cycle where
  | sys (i : Instr)
  | pair (w r : Instr)
  deriving DecidableEq, Repr

/-- The commands a cycle performs. -/
def Cycle.commands : Cycle → List Instr
  | .sys i => [i]
  | .pair w r => [w, r]

/-- `c.has i`: command `i` is one of the commands the cycle performs. -/
def Cycle.has (c : Cycle) (i : Instr) : Bool := c.commands.contains i

/-- The values on the input ports in one cycle (R60), less `clk_i`, whose rising edge is the step itself. The five
command bits stand together as the command word (R61). -/
structure Inputs where
  cw          : CommandWord
  fill_i      : Elem
  wr_data_i   : Elem
  /-- used only when `VIEW_MODE = EXTERNAL` -/
  rptr_view_i : Nat
  /-- used only when `VIEW_MODE = EXTERNAL` -/
  wptr_view_i : Nat
  deriving DecidableEq, Repr

/-- The values on the output ports in one cycle (R60). -/
structure Outputs where
  wr_ack_o   : Bool
  full_o     : Bool
  wptr_o     : Nat
  rd_valid_o : Bool
  rd_data_o  : Elem
  empty_o    : Bool
  rptr_o     : Nat
  deriving DecidableEq, Repr

end Sys2Proof
end

