-- ==== Sys2Proof/WellFormed.lean ====
section
/-! DEFINITION. Which cycles, parameters and port values exist: the sides of a cycle hold commands of their own
format, an instance has at least one slot and one bit, and a port shows a value of its width. -/

namespace Sys2Proof

/-- The `SYS` format holds `NEW`; a pair holds one command of format `W` and one of format `R` (R61, R68). -/
def Cycle.wf : Cycle → Bool
  | .sys i => i.format == .sys
  | .pair w r => w.format == .w && r.format == .r

/-- `S ≥ 1` (R7, U6) and `W ≥ 1` (R8). -/
def Params.wf (p : Params) : Bool := decide (1 ≤ p.S) && decide (1 ≤ p.W)

/-- Every input port shows a value of its width (R60). -/
def Inputs.wf (p : Params) (i : Inputs) : Bool :=
  decide (i.fill_i < 2 ^ p.W) && decide (i.wr_data_i < 2 ^ p.W) &&
    decide (i.rptr_view_i < 2 ^ p.AW) && decide (i.wptr_view_i < 2 ^ p.AW)

/-- Every output port shows a value of its width, and the two pointer exports show cursor values (R9, R60, R67). -/
def Outputs.wf (p : Params) (o : Outputs) : Bool :=
  decide (o.rd_data_o < 2 ^ p.W) && decide (o.wptr_o < p.S) && decide (o.rptr_o < p.S)

end Sys2Proof
end

