-- ==== Sys2Proof/Decode.lean ====
section
/-! DEFINITION. The five port bits of a command word; its decoding, total on all 32 words; the same from bytes, with a
refusal by name for what is no command word; and the encoder, which emits the canonical words. -/

namespace Sys2Proof

/-! ## The command bits (R60, R61) -/

def Inputs.wr_en_i (i : Inputs) : Bool := i.cw.getLsbD 0
def Inputs.wr_unchk_i (i : Inputs) : Bool := i.cw.getLsbD 1
def Inputs.rd_en_i (i : Inputs) : Bool := i.cw.getLsbD 2
def Inputs.rd_unchk_i (i : Inputs) : Bool := i.cw.getLsbD 3
def Inputs.rst_i (i : Inputs) : Bool := i.cw.getLsbD 4

/-! ## Decoding -/

/-- Format `W`, from `cw[1:0]` (R63): the enable bit decides first (R144). -/
def decodeW (f : BitVec 2) : Instr :=
  if f.getLsbD 0 then (if f.getLsbD 1 then .writeUnchecked else .write) else .wnop

/-- Format `R`, from `cw[3:2]` (R64). -/
def decodeR (f : BitVec 2) : Instr :=
  if f.getLsbD 0 then (if f.getLsbD 1 then .readUnchecked else .read) else .rnop

/-- The commands of a command word (R68): `cw[4]` overrides the other four bits (R62, R144). -/
def decode (cw : CommandWord) : Cycle :=
  if cw.getLsbD 4 then .sys .new
  else .pair (decodeW (cw.extractLsb' 0 2)) (decodeR (cw.extractLsb' 2 2))

/-- Why a string of bytes is no command word. -/
inductive DecodeError where
  | noBytes        -- there is no byte
  | noSuchInputBit -- a bit above `cw[4]` is set: the block has five command inputs (R60, R61)
  deriving DecidableEq, Repr

/-- A command word written as one byte, `cw` in its low five bits (log entry 9), and the bytes after it. -/
def decodeBytes : List Byte → Except DecodeError (Cycle × List Byte)
  | [] => .error .noBytes
  | b :: rest =>
    if b.extractLsb' 5 3 = 0#3 then .ok (decode (b.extractLsb' 0 5), rest)
    else .error .noSuchInputBit

/-- The one command a table row is compared with: `NEW`, else the write-side command unless it is idle, else the
read-side command unless it is idle, else `WNOP` (log entry 9: the word of two idle commands is the word of the
rows `WNOP` and `RNOP` alike). -/
def Cycle.lead : Cycle → Instr
  | .sys i => i
  | .pair w r => if w = .wnop then (if r = .rnop then .wnop else r) else w

/-- The bytes of a table word, the first byte the least significant. -/
def tableBytes (n w : Nat) : List Byte :=
  (List.range n).map fun k => BitVec.ofNat 8 (w >>> (8 * k))

/-- The command the decoder reads from a word numbered as spec/opcode_table.json numbers it; the rest of the bytes
must be absent. A row has five bits, so one byte; `nbits` larger than that holds more bytes. -/
def decodeTableWord (nbits w : Nat) : Option Instr :=
  match decodeBytes (tableBytes (max 1 ((nbits + 7) / 8)) w) with
  | .ok (c, []) => some c.lead
  | .ok (_, _ :: _) => none
  | .error _ => none

/-! ## Encoding -/

/-- `cw[1:0]` of a command: its canonical form (R63, R71). -/
def fieldW : Instr → BitVec 2
  | .new => 0b00#2
  | .wnop => 0b00#2
  | .write => 0b01#2
  | .writeUnchecked => 0b11#2
  | .rnop => 0b00#2
  | .read => 0b00#2
  | .readUnchecked => 0b00#2

/-- `cw[3:2]` of a command: its canonical form (R64, R71). -/
def fieldR : Instr → BitVec 2
  | .new => 0b00#2
  | .wnop => 0b00#2
  | .write => 0b00#2
  | .writeUnchecked => 0b00#2
  | .rnop => 0b00#2
  | .read => 0b01#2
  | .readUnchecked => 0b11#2

/-- The canonical command word of a cycle (R68, R71). -/
def encode : Cycle → CommandWord
  | .sys _ => 0b10000#5
  | .pair w r => (0#1 ++ (fieldR r ++ fieldW w) : BitVec 5)

/-- The cycle in which a command stands alone: the other side idle. -/
def Instr.alone (i : Instr) : Cycle :=
  match i.format with
  | .sys => .sys i
  | .w => .pair i .rnop
  | .r => .pair .wnop i

/-- The canonical spelling of a command word (R69): under `cw[4]` the other bits are cleared, and a mode bit whose
enable bit is clear is cleared. -/
def canonical (cw : CommandWord) : CommandWord :=
  if cw.getLsbD 4 then 0b10000#5
  else
    cw &&& ((0#1 ++ (BitVec.ofBool (cw.getLsbD 2) ++ (1#1 ++ (BitVec.ofBool (cw.getLsbD 0) ++ 1#1)))) : BitVec 5)

/-! ## The mask and match values of the command table (R68) -/

def Instr.mask : Instr → CommandWord
  | .new => 0b10000#5
  | .wnop => 0b10001#5
  | .write => 0b10011#5
  | .writeUnchecked => 0b10011#5
  | .rnop => 0b10100#5
  | .read => 0b11100#5
  | .readUnchecked => 0b11100#5

def Instr.pattern : Instr → CommandWord
  | .new => 0b10000#5
  | .wnop => 0b00000#5
  | .write => 0b00001#5
  | .writeUnchecked => 0b00011#5
  | .rnop => 0b00000#5
  | .read => 0b00100#5
  | .readUnchecked => 0b01100#5

/-- A command word selects a row of the table iff `cw & mask == match`. -/
def Instr.selectedBy (i : Instr) (cw : CommandWord) : Bool := cw &&& i.mask == i.pattern

end Sys2Proof
end

