-- ==== Sys2Proof/Machine/Memory.lean ====
section
/-! DEFINITION. The slot storage as plain data, its canonical form, and the accesses to it. -/

namespace Sys2Proof

/-- The storage (R21): a list of slots with their numbers. Every slot the block has is listed; a number that is not
listed names no slot and reads as nothing. -/
abbrev Memory := List Slot

/-- The canonical form for `S` slots: exactly the numbers `0 .. S-1` are listed, in rising order, each once (R21, R45).
No entry can equal what an unlisted number reads as, which is no value at all. -/
def Memory.wf (S : Nat) (m : Memory) : Bool := m.map Prod.fst == List.range S

/-- `MemRead(a, 1)` (R13, R40): the content of slot `a`; `none` where there is no slot `a`. -/
def Memory.read (m : Memory) (a : Nat) : Option Elem := m.lookup a

/-- `MemWrite(a, 1, v)` (R13, R40): slot `a` takes the whole element `v`, and no other slot changes (R43). -/
def Memory.put (m : Memory) (a : Nat) (v : Elem) : Memory := m.map fun c => if c.1 = a then (c.1, v) else c

/-- The storage in which each of `S` slots holds `v` (R80: "fills all `S` slots with `default_value`"). -/
def Memory.filled (S : Nat) (v : Elem) : Memory := (List.range S).map fun a => (a, v)

end Sys2Proof
end

