-- ==== Sys2Proof/Machine/State.lean ====
section
/-! DEFINITION. The state, the reasons a step can stop, and the state after reset. -/

namespace Sys2Proof.Machine

open Sys2Proof

/-- The state. `storage`, `wc` and `rc` are the block's three state elements (R20). The other fields are the model's
own: the parameters of the instance, which no step changes; what the environment presents, now and in the cycles to
come; what the output ports showed; and the index of the next free value. -/
structure State where
  /-- the instance's parameters `S`, `W`, `VIEW_MODE` (R7, R8, R10; log entry 1) -/
  params  : Params
  /-- the slot storage (R21) -/
  storage : Memory
  /-- the write cursor (R22) -/
  wc      : Nat
  /-- the read cursor (R22) -/
  rc      : Nat
  /-- the values on the input ports in the present cycle (R60; log entry 2) -/
  ports   : Inputs
  /-- the values the environment will present in the cycles after it, the next cycle first (log entry 2) -/
  env     : List Inputs
  /-- the values on the output ports in the cycle that ended last (R60, R66, R67; log entry 4) -/
  out     : Outputs
  /-- the index of the next free value (log entry 5) -/
  draw    : Nat
  deriving DecidableEq, Repr

/-- Why the machine stops with a fault. The block itself has no fault (R140): the one reason is the model's own. -/
inductive Fault where
  /-- A cursor names no slot, so `MemRead` or `MemWrite` has nothing to access. Raised by `WRITE`, `WRITE_UNCHECKED`,
  `READ` and `READ_UNCHECKED` in a state in which the addressing cursor is not below `S`, which the spec knows only
  before the first `NEW` and leaves unspecified there (R34, R161). Safe: the model stops (log entry 10). -/
  | noSuchSlot
  deriving DecidableEq, Repr

/-- Why the machine refuses a step. -/
inductive Refusal where
  /-- The command has no meaning in the model yet. No command of this model is in that case. Safe. -/
  | notModelled (mnemonic : String)
  /-- `S = 0` or `W = 0`: no such instance exists (U6, R7, R8). Raised by the step, before any command. Safe
  (log entry 11). -/
  | noInstance
  deriving DecidableEq, Repr

/-- Port values of an idle cycle: `cw = 0x00`, and zeros on the ports that an idle cycle ignores. -/
def idleInputs : Inputs :=
  { cw := 0#5, fill_i := 0, wr_data_i := 0, rptr_view_i := 0, wptr_view_i := 0 }

/-- The machine right after reset: the state after a `NEW` cycle (R33, R160), with a free fill value (R34, R161).
`ports`, `env`, `out` and `draw` are the model's own fields, and their values here are the model's (log entries 2,
4 and 5): an idle cycle is presented, nothing is scripted, and `out` shows a `NEW` cycle whose pre-edge state was a
constructed one. -/
def State.reset : State :=
  { params := Config.resetParams
    storage := Memory.filled Config.resetParams.S (Config.resetFill Config.resetParams.W).toNat
    wc := 0
    rc := 0
    ports := idleInputs
    env := []
    out :=
      { wr_ack_o := false, full_o := false, wptr_o := 0, rd_valid_o := false,
        rd_data_o := (Config.anyElem Config.resetParams.W 0).toNat, empty_o := true, rptr_o := 0 }
    draw := 1 }

end Sys2Proof.Machine
end

