-- ==== Sys2Proof/Machine/Ops.lean ====
section
/-! DEFINITION. The index advance, the updates of one field, the storage accesses by slot number, and the loading of
the next cycle's port values. The block takes no exception and returns from none (R140, R145, R146), so no operation
here does either. -/

namespace Sys2Proof

/-- `adv(i)` (R110): the branch form, on unbounded integers. -/
def adv (S i : Nat) : Nat := if i + 1 = S then 0 else i + 1

namespace Machine

/-! ## Updates of one field -/

def State.setStorage (s : State) (m : Memory) : State := { s with storage := m }
def State.setWc (s : State) (i : Nat) : State := { s with wc := i }
def State.setRc (s : State) (i : Nat) : State := { s with rc := i }

/-- `wr_ack_o` of the cycle (R66). -/
def State.setWrAck (s : State) (b : Bool) : State := { s with out := { s.out with wr_ack_o := b } }

/-- The free value on `rd_data_o` in a cycle that delivers nothing (R66, U3): `W` bits that nothing constrains. -/
def State.anyData (s : State) : Elem := (Config.anyElem s.params.W s.draw).toNat

/-- `rd_valid_o` and `rd_data_o` of the cycle (R66), from the read's result: an element, or none. -/
def State.setRdResult (s : State) (r : Option Elem) : State :=
  { s with out := { s.out with rd_valid_o := r.isSome, rd_data_o := r.getD s.anyData } }

/-- `full_o`, `empty_o`, `wptr_o`, `rptr_o` of the cycle (R67). -/
def State.setStatus (s : State) (full empty : Bool) (wptr rptr : Nat) : State :=
  { s with out := { s.out with full_o := full, empty_o := empty, wptr_o := wptr, rptr_o := rptr } }

/-! ## The storage, by slot number -/

/-- `MemRead(a, 1)`; `none` where there is no slot `a`. -/
def State.memRead (s : State) (a : Nat) : Option Elem := s.storage.read a

/-- `MemWrite(a, 1, v)`; `none` where there is no slot `a`. -/
def State.memWrite (s : State) (a : Nat) (v : Elem) : Option State :=
  if (s.storage.read a).isSome then some (s.setStorage (s.storage.put a v)) else none

/-! ## The next cycle's port values -/

/-- What the environment presents next: the next scripted cycle, else a free choice of every port (R28, R148; log
entry 2). -/
def State.nextInputs (s : State) : Inputs :=
  match s.env with
  | i :: _ => i
  | [] =>
    { cw := Config.envCommand s.draw
      fill_i := (Config.envFill s.params.W s.draw).toNat
      wr_data_i := (Config.envWrData s.params.W s.draw).toNat
      rptr_view_i := (Config.envRptrView s.params.AW s.draw).toNat
      wptr_view_i := (Config.envWptrView s.params.AW s.draw).toNat }

/-- After the edge that ends a cycle: the ports show the next cycle's values, and the free values move on. -/
def State.nextCycle (s : State) : State :=
  { s with ports := s.nextInputs, env := s.env.tail, draw := s.draw + 1 }

end Machine
end Sys2Proof
end

