-- ==== Sys2Proof/Machine/Operands.lean ====
section
/-! DEFINITION. The operands of the commands: the two data ports, taken whole (R65), and the two views of the other
side's cursor (R48, R49). -/

namespace Sys2Proof.Machine

/-- The element a write command stores (R65). -/
def State.wrData (s : State) : Elem := s.ports.wr_data_i

/-- The element `NEW` stores into every slot (R65). -/
def State.fill (s : State) : Elem := s.ports.fill_i

/-- `rv`, the read cursor as the write side sees it (R48). -/
def State.rv (s : State) : Nat :=
  match s.params.viewMode with
  | .direct => s.rc
  | .external => s.ports.rptr_view_i

/-- `wv`, the write cursor as the read side sees it (R48). -/
def State.wv (s : State) : Nat :=
  match s.params.viewMode with
  | .direct => s.wc
  | .external => s.ports.wptr_view_i

end Sys2Proof.Machine
end

