-- ==== Sys2Proof/Machine/Flags.lean ====
section
/-! DEFINITION. The block's conditions, which are functions of the cursors and not stored bits (R24 to R27), and the
status outputs (R67). -/

namespace Sys2Proof.Machine

/-- The empty condition (R24). -/
def State.isEmpty (s : State) : Bool := s.rc == s.wc

/-- The full condition (R25). -/
def State.isFull (s : State) : Bool := adv s.params.S s.wc == s.rc

/-- The occupancy `(wc - rc) mod S` (R26). No port reports it. -/
def State.occ (s : State) : Nat := if s.rc ≤ s.wc then s.wc - s.rc else s.wc + s.params.S - s.rc

/-- `full_o` (R67): the full condition as the producer sees it. -/
def State.fullO (s : State) : Bool := adv s.params.S s.wc == s.rv

/-- `empty_o` (R67): the empty condition as the consumer sees it. -/
def State.emptyO (s : State) : Bool := s.rc == s.wv

/-- The status and pointer outputs of the cycle that starts in `pre`, put beside the results in `s` (R67). -/
def State.driveStatus (s pre : State) : State := s.setStatus pre.fullO pre.emptyO pre.wc pre.rc

end Sys2Proof.Machine
end

