-- ==== Sys2Proof/Machine/Transfer.lean ====
section
/-! DEFINITION. What the commands are built from: a store or none on the write side, a delivery or none on the read
side. Each reads the state before the edge (R47) and writes its own side only (R22, R147). -/

namespace Sys2Proof.Machine

/-- A cycle's answer. -/
abbrev Result := Host.Outcome State Fault Refusal

/-- Store at the current write cursor slot and advance the write cursor; `wr_ack_o = 1` (R90, R100, R119). -/
def storeAndAdvance (s : State) : Result :=
  match s.memWrite s.wc s.wrData with
  | some t => .next ((t.setWc (adv s.params.S s.wc)).setWrAck true)
  | none => .fault .noSuchSlot

/-- The write side stores nothing; `wr_ack_o = 0` (R90, R113). -/
def storeNothing (s : State) : Result := .next (s.setWrAck false)

/-- Deliver the slot at the read cursor and advance the read cursor; `rd_valid_o = 1` (R91, R101, R119). -/
def deliverAndAdvance (s : State) : Result :=
  match s.memRead s.rc with
  | some v => .next ((s.setRc (adv s.params.S s.rc)).setRdResult (some v))
  | none => .fault .noSuchSlot

/-- The read side delivers nothing; `rd_valid_o = 0` and `rd_data_o` is free (R91, R114). -/
def deliverNothing (s : State) : Result := .next (s.setRdResult none)

end Sys2Proof.Machine
end

