-- ==== Sys2Proof/Machine/Checked.lean ====
section
/-! DEFINITION. The meanings of `WRITE` and `READ` (41_checked.md). -/

namespace Sys2Proof.Machine

/-- `WRITE` (R90): rejected when the candidate cursor equals the view of the read cursor. -/
def execWrite (s : State) : Result := if s.fullO then storeNothing s else storeAndAdvance s

/-- `READ` (R91): no value when the read cursor equals the view of the write cursor. -/
def execRead (s : State) : Result := if s.emptyO then deliverNothing s else deliverAndAdvance s

end Sys2Proof.Machine
end

