-- ==== Sys2Proof/Machine/Construction.lean ====
section
/-! DEFINITION. The meaning of `NEW` (40_construction.md). -/

namespace Sys2Proof.Machine

/-- `NEW` (R80): all `S` slots take `fill_i`, both cursors `0`; no store, no delivery. -/
def execNew (s : State) : Result :=
  .next
    (((((s.setStorage (Memory.filled s.params.S s.fill)).setWc 0).setRc 0).setWrAck false).setRdResult none)

end Sys2Proof.Machine
end

