-- ==== Sys2Proof/Machine/Idle.lean ====
section
/-! DEFINITION. The meanings of the idle commands `WNOP` and `RNOP` (43_advance_idle_cycle.md, section 2). -/

namespace Sys2Proof.Machine

/-- `WNOP` (R113). -/
def execWnop (s : State) : Result := storeNothing s

/-- `RNOP` (R114). -/
def execRnop (s : State) : Result := deliverNothing s

end Sys2Proof.Machine
end

