-- ==== Sys2Proof/Machine/Unchecked.lean ====
section
/-! DEFINITION. The meanings of `WRITE_UNCHECKED` and `READ_UNCHECKED` (42_unchecked.md). -/

namespace Sys2Proof.Machine

/-- `WRITE_UNCHECKED` (R100): stores whether or not the buffer is full, so it can overtake the read cursor (R102). -/
def execWriteUnchecked (s : State) : Result := storeAndAdvance s

/-- `READ_UNCHECKED` (R101): the same emptiness test as `READ`. -/
def execReadUnchecked (s : State) : Result := if s.emptyO then deliverNothing s else deliverAndAdvance s

end Sys2Proof.Machine
end

