-- ==== Sys2Proof/Machine/Dispatch.lean ====
section
/-! DEFINITION. One arm for each command: its effect when it is presented in the state before the edge. -/

namespace Sys2Proof.Machine

open Sys2Proof

def exec (i : Instr) (s : State) : Host.Outcome State Fault Refusal :=
  match i with
  | .new => Sys2Proof.Machine.execNew s
  | .wnop => Sys2Proof.Machine.execWnop s
  | .write => Sys2Proof.Machine.execWrite s
  | .writeUnchecked => Sys2Proof.Machine.execWriteUnchecked s
  | .rnop => Sys2Proof.Machine.execRnop s
  | .read => Sys2Proof.Machine.execRead s
  | .readUnchecked => Sys2Proof.Machine.execReadUnchecked s

end Sys2Proof.Machine
end

