-- ==== Sys2Proof/Machine/Cycle.lean ====
section
/-! DEFINITION. One cycle (R115): the commands of the command word, each run on the state before the edge, their
effects put together at the edge. -/

namespace Sys2Proof.Machine

open Sys2Proof

/-- Both sides' effects land together (R46). The write side gives the storage, the write cursor and `wr_ack_o`; the
read side the read cursor, `rd_valid_o` and `rd_data_o`: the two write disjoint state (R115). -/
def joinStates (a b : State) : State :=
  { a with
    rc := b.rc
    out := { a.out with rd_valid_o := b.out.rd_valid_o, rd_data_o := b.out.rd_data_o } }

/-- The two sides' answers put together: a stop of either side stops the cycle. -/
def joinSides (w r : Result) : Result :=
  match w, r with
  | .next a, .next b => .next (joinStates a b)
  | .next _, .fault f => .fault f
  | .next _, .refused e => .refused e
  | .fault f, _ => .fault f
  | .refused e, _ => .refused e

/-- A write-side and a read-side command in one cycle: each tests and reads the state before the edge (R47). -/
def bothSides (w r : Instr) (s : State) : Result := joinSides (exec w s) (exec r s)

/-- The commands of a cycle. -/
def runCommands (c : Cycle) (s : State) : Result :=
  match c with
  | .sys i => exec i s
  | .pair w r => bothSides w r s

/-- The end of the cycle that started in `pre`: the status outputs it showed (R67), and the next cycle's port
values. -/
def endCycle (pre : State) (o : Result) : Result :=
  match o with
  | .next t => .next (t.driveStatus pre).nextCycle
  | .fault f => .fault f
  | .refused e => .refused e

/-- One cycle of the instance; `S = 0` or `W = 0` is no instance (U6). -/
def runCycle (s : State) : Result :=
  if s.params.wf then endCycle s (runCommands (decode s.ports.cw) s) else .refused .noInstance

/-- The ports' command word replaced. -/
def State.setCommand (s : State) (cw : CommandWord) : State := { s with ports := { s.ports with cw := cw } }

end Sys2Proof.Machine
end

