-- ==== Sys2Proof/Machine/Step.lean ====
section
/-! DEFINITION. The step: one clock cycle. -/

namespace Sys2Proof.Machine

/-- One step is one clock cycle, with the values the input ports show (R12, R115, R171). -/
def step (s : State) : Host.Outcome State Fault Refusal := runCycle s

/-- `s` with a table word on the command ports, where the step takes its command word (log entry 3). -/
def State.withFetchWord (s : State) (_nbits w : Nat) : State := s.setCommand (BitVec.ofNat 5 w)

end Sys2Proof.Machine
end

