-- ==== Sys2Proof/Safety.lean ====
section
/-! DEFINITION. What claims are stated in: the invariant of the states an instance can be in, the overrun predicate,
runs and what they accept and deliver, the duty of the environment in `EXTERNAL` mode, and the lags of its views. -/

namespace Sys2Proof.Machine

open Sys2Proof

/-- The states of an instance after its first `NEW` (R23, R33), with ports that show values of their widths (R60). -/
structure State.Inv (s : State) : Prop where
  /-- the instance exists (R7, R8) -/
  params : s.params.wf = true
  /-- exactly the slots `0 .. S-1` exist (R21) -/
  storage : s.storage.wf s.params.S = true
  /-- every slot holds `W` bits (R21) -/
  elements : ∀ c ∈ s.storage, c.2 < 2 ^ s.params.W
  /-- Invariant A (R23) -/
  wc_lt : s.wc < s.params.S
  /-- Invariant A (R23) -/
  rc_lt : s.rc < s.params.S
  /-- the input ports of this cycle show values of their widths (R60) -/
  ports : s.ports.wf s.params = true
  /-- so do those of the scripted cycles -/
  env : ∀ i ∈ s.env, i.wf s.params = true
  /-- the output ports showed values of their widths (R60) -/
  out : s.out.wf s.params = true

/-- Command `i` is presented in the present cycle. -/
def State.presents (s : State) (i : Instr) : Bool := (decode s.ports.cw).has i

/-- A read command is presented in the present cycle. -/
def State.presentsRead (s : State) : Bool := s.presents .read || s.presents .readUnchecked

/-- The overrun predicate of the present cycle (R103), on the cursors and not on the views. -/
def State.overrun (s : State) : Bool :=
  s.presents .writeUnchecked && s.isFull && !(s.presentsRead && s.rc != s.wv)

/-! ## Frames -/

/-- What no command writes: the parameters, the input side of the ports, and the status outputs. -/
def CommonKept (s t : State) : Prop :=
  t.params = s.params ∧ t.ports = s.ports ∧ t.env = s.env ∧ t.draw = s.draw ∧ t.out.full_o = s.out.full_o ∧
    t.out.empty_o = s.out.empty_o ∧ t.out.wptr_o = s.out.wptr_o ∧ t.out.rptr_o = s.out.rptr_o

/-- The write side's state and result are as before. -/
def WriteSideKept (s t : State) : Prop :=
  t.wc = s.wc ∧ (∀ a, t.storage.read a = s.storage.read a) ∧ t.out.wr_ack_o = s.out.wr_ack_o

/-- The read side's state and result are as before. -/
def ReadSideKept (s t : State) : Prop :=
  t.rc = s.rc ∧ t.out.rd_valid_o = s.out.rd_valid_o ∧ t.out.rd_data_o = s.out.rd_data_o

/-- `t` holds what a `NEW` cycle leaves, with the fill value `v` (R33, R80). -/
def State.Constructed (t : State) (v : Elem) : Prop :=
  t.wc = 0 ∧ t.rc = 0 ∧ (∀ a, t.storage.read a = if a < t.params.S then some v else none) ∧
    t.isEmpty = true ∧ t.occ = 0 ∧ t.isFull = decide (t.params.S = 1)

/-! ## The elements in the buffer -/

/-- The unread run (R26): the slots `rc, adv(rc), ...` up to but not including `wc`, oldest first. -/
def State.unread (s : State) : List Elem :=
  (List.range s.occ).filterMap fun k => s.storage.read ((s.rc + k) % s.params.S)

/-! ## Runs -/

/-- `σ 0, ..., σ n` are the states of `n` successive cycles: cycle `t` starts in `σ t` and ends in `σ (t + 1)`,
whose `out` holds what the output ports showed in cycle `t`. -/
def Run (σ : Nat → State) (n : Nat) : Prop := ∀ t, t < n → step (σ t) = .next (σ (t + 1))

/-- None of the first `n` cycles is a `NEW` cycle. -/
def NoNew (σ : Nat → State) (n : Nat) : Prop := ∀ t, t < n → (σ t).presents .new = false

/-- None of the first `n` cycles is an overrun (R103). -/
def NoOverrun (σ : Nat → State) (n : Nat) : Prop := ∀ t, t < n → (σ t).overrun = false

/-- The producer uses only `WRITE` in the first `n` cycles (R57). -/
def CheckedOnly (σ : Nat → State) (n : Nat) : Prop := ∀ t, t < n → (σ t).presents .writeUnchecked = false

/-- Cycle `t` stored (R66). -/
def stored (σ : Nat → State) (t : Nat) : Bool := (σ (t + 1)).out.wr_ack_o

/-- Cycle `t` delivered (R66). -/
def gave (σ : Nat → State) (t : Nat) : Bool := (σ (t + 1)).out.rd_valid_o

/-- The values on `wr_data_i` in those of the first `n` cycles that have `wr_ack_o = 1` (R121). -/
def accepted (σ : Nat → State) (n : Nat) : List Elem :=
  (List.range n).filterMap fun t => if stored σ t then some (σ t).ports.wr_data_i else none

/-- The values on `rd_data_o` in those of the first `n` cycles that have `rd_valid_o = 1` (R121). -/
def delivered (σ : Nat → State) (n : Nat) : List Elem :=
  (List.range n).filterMap fun t => if gave σ t then some (σ (t + 1)).out.rd_data_o else none

/-- The producer performs `W! v` for the values of `vs` in order (R72): in every cycle it is idle, or it presents
`WRITE` with the first value of `vs` that has not been accepted yet. -/
def ProducerRetries (σ : Nat → State) (n : Nat) (vs : List Elem) : Prop :=
  ∀ t, t < n →
    (σ t).presents .wnop = true ∨
      ((σ t).presents .write = true ∧ vs[(accepted σ t).length]? = some (σ t).ports.wr_data_i)

/-- The run made by driving the ports with given values, one cycle each. -/
def driven : List Inputs → State → Result
  | [], s => .next s
  | i :: rest, s =>
    match step { s with ports := i } with
    | .next t => driven rest t
    | .fault f => .fault f
    | .refused e => .refused e

/-! ## The duty of the environment in `EXTERNAL` mode (R49) -/

/-- The views of cycles `0 .. n`, where cycle `0` is the first after a `NEW`: each shows a value the viewed cursor
held at a cycle since that `NEW`, not later than now, and the chosen cycle never goes back. -/
structure ViewDuty (σ : Nat → State) (n : Nat) (dr dw : Nat → Nat) : Prop where
  rptr : ∀ t, t ≤ n → dr t ≤ t ∧ (σ t).ports.rptr_view_i = (σ (dr t)).rc
  wptr : ∀ t, t ≤ n → dw t ≤ t ∧ (σ t).ports.wptr_view_i = (σ (dw t)).wc
  forward : ∀ t, t < n → dr t ≤ dr (t + 1) ∧ dw t ≤ dw (t + 1)

/-- The number of advances of the read cursor that the view of cycle `t` does not show yet (R57). -/
def lagR (σ : Nat → State) (dr : Nat → Nat) (t : Nat) : Nat :=
  ((List.range t).filter fun k => decide (dr t ≤ k) && gave σ k).length

/-- The number of advances of the write cursor that the view of cycle `t` does not show yet (R57). -/
def lagW (σ : Nat → State) (dw : Nat → Nat) (t : Nat) : Nat :=
  ((List.range t).filter fun k => decide (dw t ≤ k) && stored σ k).length

end Sys2Proof.Machine
end

