-- ==== Sys2Proof/Certificates/Slice0/Obligations.lean ====
section
/-! DEFINITION. The statements for the provers. Each docstring names the rule of spec/ it formalises, or says that
it rests on a choice of the model. Statements are about every instance: every `S`, every `W`, both view modes. -/

open Sys2Proof Sys2Proof.Machine

/-! ## The index advance and the cursor width -/

/-- R110: the branch form of `adv` on `0 .. S-1`. -/
def Obligations.AdvanceIsTheBranch : Prop :=
  ∀ S i : Nat, i < S → (i + 1 = S → adv S i = 0) ∧ (i + 1 ≠ S → adv S i = i + 1) ∧ adv S i < S

/-- R111: the modular form of `adv`; `n` advances; a lap; a bijection; when it moves. -/
def Obligations.AdvanceIsModular : Prop :=
  ∀ S i : Nat, i < S →
    adv S i = (i + 1) % S ∧
    (∀ n : Nat, (adv S)^[n] i = (i + n) % S) ∧
    (adv S)^[S] i = i ∧
    (∀ j : Nat, j < S → adv S j = adv S i → j = i) ∧
    (∃ j : Nat, j < S ∧ adv S j = i) ∧
    (adv S i ≠ i ↔ 2 ≤ S) ∧ (adv S 0 = 0 ↔ S = 1)

/-- R9: `AW` is the least width of at least one bit that holds `S` codes; every cursor value and `S - 1` fit in it,
and (R112) `S` itself fits in `AW + 1` bits. -/
def Obligations.CursorWidthIsLeast : Prop :=
  ∀ p : Params, p.wf = true →
    1 ≤ p.AW ∧ p.S ≤ 2 ^ p.AW ∧ (∀ k : Nat, 1 ≤ k → p.S ≤ 2 ^ k → p.AW ≤ k) ∧ p.S < 2 ^ (p.AW + 1)

/-! ## The command word -/

/-- R68: decoding is total; the mask and match rows; which words are canonical. -/
def Obligations.DecodeFollowsTheTable : Prop :=
  ∀ cw : CommandWord,
    (cw.getLsbD 4 = true → decode cw = .sys .new) ∧
    (cw.getLsbD 4 = false → ∃ w r, decode cw = .pair w r ∧ w.format = .w ∧ r.format = .r) ∧
    (∀ i : Instr, (decode cw).has i = i.selectedBy cw) ∧
    (encode (decode cw) = cw ↔ cw.toNat ∈ [0x00, 0x01, 0x03, 0x04, 0x05, 0x07, 0x0C, 0x0D, 0x0F, 0x10])

/-- Sample words of every format, from the tables of 30_encoding.md R68 and 95_test_vectors.md 2.13. -/
def Obligations.SampleWordsDecode : Prop :=
  decode 0b00000#5 = .pair .wnop .rnop ∧ decode 0b00001#5 = .pair .write .rnop ∧
  decode 0b00011#5 = .pair .writeUnchecked .rnop ∧ decode 0b00100#5 = .pair .wnop .read ∧
  decode 0b01100#5 = .pair .wnop .readUnchecked ∧ decode 0b01101#5 = .pair .write .readUnchecked ∧
  decode 0b00111#5 = .pair .writeUnchecked .read ∧ decode 0b01010#5 = .pair .wnop .rnop ∧
  decode 0b10101#5 = .sys .new

/-- The encoder and the decoder agree, on words and on their byte form (the byte form is the model's, log entry 9);
the encoder emits canonical words only (R69). -/
def Obligations.DecodeEncodeAgree : Prop :=
  (∀ c : Cycle, c.wf = true →
    decode (encode c) = c ∧
    canonical (encode c) = encode c ∧
    ∀ rest : List Byte, decodeBytes ((encode c).setWidth 8 :: rest) = .ok (c, rest)) ∧
  (∀ cw : CommandWord, (decode cw).wf = true ∧ encode (decode cw) = canonical cw ∧ decode (canonical cw) = decode cw)

/-- R69: no word is illegal, and none traps; a mode bit without its enable bit is the idle command of its side; beside
`rst_i = 1` every word is `NEW`; a non-canonical spelling has no effect of its own; the encoder emits canonical words. -/
def Obligations.NonCanonicalWordsHaveNoEffectOfTheirOwn : Prop :=
  (∀ cw : CommandWord,
    (cw.getLsbD 4 = true → decode cw = .sys .new) ∧
    (cw.getLsbD 4 = false → cw.getLsbD 0 = false → (decode cw).has .wnop = true) ∧
    (cw.getLsbD 4 = false → cw.getLsbD 2 = false → (decode cw).has .rnop = true)) ∧
  (∀ c : Cycle, c.wf = true → canonical (encode c) = encode c) ∧
  (∀ s : State, step (s.setCommand (canonical s.ports.cw)) = step s) ∧
  (∀ s : State, s.Inv → ∀ cw : CommandWord, ∃ t, step (s.setCommand cw) = .next t)

/-! ## The commands -/

/-- R80: `NEW`, as a command and as a cycle. It completes in every state of an existing instance, whatever the other
bits of the command word are. What `full_o` and `empty_o` show in a `NEW` cycle in `EXTERNAL` mode is the model's
reading of R67 beside "the view inputs are ignored" of R80 and R49 (DEDUCED, log entry 14). -/
def Obligations.NewConstructsTheInstance : Prop :=
  (∀ cw : CommandWord, (decode cw).has .new = cw.getLsbD 4) ∧
  (∀ s : State, ∃ t, exec .new s = .next t ∧
    t.wc = 0 ∧ t.rc = 0 ∧ (∀ a, t.storage.read a = if a < s.params.S then some s.ports.fill_i else none) ∧
    t.out.wr_ack_o = false ∧ t.out.rd_valid_o = false ∧ CommonKept s t) ∧
  (∀ s : State, s.params.wf = true → s.ports.cw.getLsbD 4 = true →
    ∃ t, step s = .next t ∧ t.params = s.params ∧ t.Constructed s.ports.fill_i ∧
      t.out.wr_ack_o = false ∧ t.out.rd_valid_o = false ∧
      t.out.full_o = s.fullO ∧ t.out.empty_o = s.emptyO ∧ t.out.wptr_o = s.wc ∧ t.out.rptr_o = s.rc)

/-- R90: `WRITE` on every operand: rejected when the candidate equals the view, else stored; what an accepted `WRITE`
does to the occupancy; with one slot every `WRITE` is rejected, with two it is accepted only when the buffer is empty. -/
def Obligations.WriteStoresUnlessFull : Prop :=
  (∀ cw : CommandWord, (decode cw).has .write = (!cw.getLsbD 4 && !cw.getLsbD 1 && cw.getLsbD 0)) ∧
  (∀ s : State, adv s.params.S s.wc = s.rv →
    ∃ t, exec .write s = .next t ∧ t.out.wr_ack_o = false ∧ t.wc = s.wc ∧
      (∀ a, t.storage.read a = s.storage.read a) ∧ ReadSideKept s t ∧ CommonKept s t) ∧
  (∀ s : State, s.Inv → adv s.params.S s.wc ≠ s.rv →
    ∃ t, exec .write s = .next t ∧ t.out.wr_ack_o = true ∧ t.wc = adv s.params.S s.wc ∧
      (∀ a, t.storage.read a = if a = s.wc then some s.ports.wr_data_i else s.storage.read a) ∧
      t.occ = (s.occ + 1) % s.params.S ∧
      (s.params.viewMode = .direct → t.occ = s.occ + 1 ∧ t.isEmpty = false) ∧
      ReadSideKept s t ∧ CommonKept s t) ∧
  (∀ s : State, s.Inv → s.params.S = 1 → s.rv < s.params.S → adv s.params.S s.wc = s.rv) ∧
  (∀ s : State, s.Inv → s.params.S = 2 → s.params.viewMode = .direct →
    (adv s.params.S s.wc ≠ s.rv ↔ s.isEmpty = true))

/-- R91: `READ` on every operand: no value when the read cursor equals the view, else the slot at the read cursor; what
a delivering `READ` does to the occupancy; in the one-slot instance no `READ` delivers. -/
def Obligations.ReadDeliversUnlessEmpty : Prop :=
  (∀ cw : CommandWord, (decode cw).has .read = (!cw.getLsbD 4 && !cw.getLsbD 3 && cw.getLsbD 2)) ∧
  (∀ s : State, s.rc = s.wv →
    ∃ t, exec .read s = .next t ∧ t.out.rd_valid_o = false ∧ t.rc = s.rc ∧ WriteSideKept s t ∧ CommonKept s t) ∧
  (∀ s : State, s.Inv → s.rc ≠ s.wv →
    ∃ t, exec .read s = .next t ∧ t.out.rd_valid_o = true ∧ s.storage.read s.rc = some t.out.rd_data_o ∧
      t.rc = adv s.params.S s.rc ∧
      (s.params.viewMode = .direct → t.occ + 1 = s.occ ∧ t.isFull = false) ∧
      WriteSideKept s t ∧ CommonKept s t) ∧
  (∀ s : State, s.Inv → s.params.S = 1 → s.wv < s.params.S → s.rc = s.wv)

/-- R100: `WRITE_UNCHECKED` stores and advances in every state, full or not; with one slot it moves nothing and leaves the
buffer empty and full. -/
def Obligations.WriteUncheckedAlwaysStores : Prop :=
  (∀ cw : CommandWord, (decode cw).has .writeUnchecked = (!cw.getLsbD 4 && cw.getLsbD 1 && cw.getLsbD 0)) ∧
  (∀ s : State, s.Inv →
    ∃ t, exec .writeUnchecked s = .next t ∧ t.out.wr_ack_o = true ∧ t.wc = adv s.params.S s.wc ∧
      (∀ a, t.storage.read a = if a = s.wc then some s.ports.wr_data_i else s.storage.read a) ∧
      t.occ = (s.occ + 1) % s.params.S ∧
      (s.params.S = 1 → t.wc = 0 ∧ t.isEmpty = true ∧ t.isFull = true) ∧ ReadSideKept s t ∧ CommonKept s t)

/-- R101: `READ_UNCHECKED` is the same function of state and inputs as `READ`. -/
def Obligations.ReadUncheckedIsRead : Prop :=
  (∀ cw : CommandWord, (decode cw).has .readUnchecked = (!cw.getLsbD 4 && cw.getLsbD 3 && cw.getLsbD 2)) ∧
  (∀ s : State, exec .readUnchecked s = exec .read s) ∧
  (∀ s : State, s.rc = s.wv →
    ∃ t, exec .readUnchecked s = .next t ∧ t.out.rd_valid_o = false ∧ t.rc = s.rc ∧
      WriteSideKept s t ∧ CommonKept s t) ∧
  (∀ s : State, s.Inv → s.rc ≠ s.wv →
    ∃ t, exec .readUnchecked s = .next t ∧ t.out.rd_valid_o = true ∧
      s.storage.read s.rc = some t.out.rd_data_o ∧ t.rc = adv s.params.S s.rc ∧ WriteSideKept s t ∧ CommonKept s t)

/-- R113 and R114: the idle commands complete in every state, store and deliver nothing, and move no cursor; a cycle
of both changes no state element. -/
def Obligations.IdleCommandsChangeNothing : Prop :=
  (∀ cw : CommandWord, (decode cw).has .wnop = (!cw.getLsbD 4 && !cw.getLsbD 0) ∧
    (decode cw).has .rnop = (!cw.getLsbD 4 && !cw.getLsbD 2)) ∧
  (∀ s : State, ∃ t, exec .wnop s = .next t ∧ t.out.wr_ack_o = false ∧ t.wc = s.wc ∧
    (∀ a, t.storage.read a = s.storage.read a) ∧ ReadSideKept s t ∧ CommonKept s t) ∧
  (∀ s : State, ∃ t, exec .rnop s = .next t ∧ t.out.rd_valid_o = false ∧ t.rc = s.rc ∧
    WriteSideKept s t ∧ CommonKept s t) ∧
  (∀ s : State, s.params.wf = true → s.presents .wnop = true → s.presents .rnop = true →
    ∃ t, step s = .next t ∧ t.storage = s.storage ∧ t.wc = s.wc ∧ t.rc = s.rc ∧
      t.out.full_o = s.fullO ∧ t.out.empty_o = s.emptyO ∧ t.out.wptr_o = s.wc ∧ t.out.rptr_o = s.rc)

/-- R165: presented only while `full_o = 0`, `WRITE_UNCHECKED` equals `WRITE`; while `full_o = 1` the two differ in
their result on every state of an instance. -/
def Obligations.UncheckedWriteEqualsWriteUnlessFull : Prop :=
  ∀ s : State,
    (s.fullO = false → exec .writeUnchecked s = exec .write s) ∧
    (s.Inv → s.fullO = true → exec .writeUnchecked s ≠ exec .write s)

/-! ## Frames and ownership -/

/-- What every write-side command leaves unchanged (R22, R56, R147): the read side, and every slot but `wc`; all of
the storage and `wc` too where nothing is stored. -/
def Obligations.WriteSideFrame : Prop :=
  ∀ (i : Instr) (s t : State), i.format = .w → exec i s = .next t →
    ReadSideKept s t ∧ CommonKept s t ∧
    (∀ a, a ≠ s.wc → t.storage.read a = s.storage.read a) ∧
    (t.out.wr_ack_o = false → t.wc = s.wc ∧ ∀ a, t.storage.read a = s.storage.read a)

/-- What every read-side command leaves unchanged (R22, R44, R147): all of the storage and the write side; the read
cursor too where nothing is delivered. -/
def Obligations.ReadSideFrame : Prop :=
  ∀ (i : Instr) (s t : State), i.format = .r → exec i s = .next t →
    WriteSideKept s t ∧ CommonKept s t ∧ (t.out.rd_valid_o = false → t.rc = s.rc)

/-- R117 with R22: how a cycle may move the cursors, and whose commands move them. -/
def Obligations.CursorsMoveByTheirOwnSide : Prop :=
  ∀ s t : State, step s = .next t →
    (s.presents .new = true → t.wc = 0 ∧ t.rc = 0) ∧
    (s.presents .new = false →
      (t.wc = s.wc ∨ t.wc = adv s.params.S s.wc) ∧ (t.rc = s.rc ∨ t.rc = adv s.params.S s.rc) ∧
      (s.presents .wnop = true → t.wc = s.wc ∧ t.storage = s.storage) ∧
      (s.presents .rnop = true → t.rc = s.rc))

/-- R104 and R101: the block keeps no memory of which variant was used. A read cycle with the mode bit of the read
side changed gives the same next state, and so does a write cycle with the mode bit of the write side changed,
while `full_o = 0`. -/
def Obligations.VariantLeavesNoTrace : Prop :=
  ∀ s : State, s.ports.cw.getLsbD 4 = false →
    step (s.setCommand (s.ports.cw ^^^ 0b01000#5)) = step s ∧
    (s.fullO = false → step (s.setCommand (s.ports.cw ^^^ 0b00010#5)) = step s)

/-! ## One cycle -/

/-- A step is the decoded commands run on the state before the edge, then the end of the cycle: the status outputs
and the next port values (R115; the order of the model's parts is log entry 8; the status outputs of a `NEW` cycle in
`EXTERNAL` mode are the model's reading, log entry 14). -/
def Obligations.StepRunsTheDecodedCommands : Prop :=
  ∀ s : State, s.params.wf = true →
    (∀ t, decode s.ports.cw = .sys .new → exec .new s = .next t → step s = .next (t.driveStatus s).nextCycle) ∧
    (∀ w r a b, decode s.ports.cw = .pair w r → exec w s = .next a → exec r s = .next b →
      step s = .next ((joinStates a b).driveStatus s).nextCycle)

/-- R51: "When either side presents its idle command the cycle is the other command alone." -/
def Obligations.CycleOfOneCommandIsTheCommand : Prop :=
  ∀ (s t : State) (i : Instr), s.params.wf = true → decode s.ports.cw = i.alone → exec i s = .next t →
    ∃ u, step s = .next u ∧ u.storage = t.storage ∧ u.wc = t.wc ∧ u.rc = t.rc ∧
      (i.format ≠ .r → u.out.wr_ack_o = t.out.wr_ack_o) ∧
      (i.format ≠ .w → u.out.rd_valid_o = t.out.rd_valid_o ∧ u.out.rd_data_o = t.out.rd_data_o) ∧
      (i.format = .w → u.out.rd_valid_o = false) ∧ (i.format = .r → u.out.wr_ack_o = false)

/-- R115: the step of the block, against its pseudocode written on the port bits. That `full_o` and `empty_o` compare
with the views also when `rst_i = 1` in `EXTERNAL` mode is the model's reading of R67 and R115 beside "the view inputs
are ignored" of R80 and R49 (DEDUCED, log entry 14). -/
def Obligations.StepIsThePseudocode : Prop :=
  ∀ s : State, s.Inv →
    ∃ t, step s = .next t ∧ t.params = s.params ∧
      t.out.full_o = decide (adv s.params.S s.wc = s.rv) ∧ t.out.empty_o = decide (s.rc = s.wv) ∧
      t.out.wptr_o = s.wc ∧ t.out.rptr_o = s.rc ∧
      (if s.ports.rst_i then
        t.out.wr_ack_o = false ∧ t.out.rd_valid_o = false ∧ t.wc = 0 ∧ t.rc = 0 ∧
          ∀ a, t.storage.read a = if a < s.params.S then some s.ports.fill_i else none
      else
        let doStore := s.ports.wr_en_i && (s.ports.wr_unchk_i || !t.out.full_o)
        let doRead := s.ports.rd_en_i && !t.out.empty_o
        t.out.wr_ack_o = doStore ∧ t.out.rd_valid_o = doRead ∧
          (doRead = true → s.storage.read s.rc = some t.out.rd_data_o) ∧
          t.wc = (if doStore then adv s.params.S s.wc else s.wc) ∧
          t.rc = (if doRead then adv s.params.S s.rc else s.rc) ∧
          ∀ a, t.storage.read a =
            if doStore = true ∧ a = s.wc then some s.ports.wr_data_i else s.storage.read a)

/-- R66: the result outputs of a cycle. -/
def Obligations.ResultOutputs : Prop :=
  ∀ s t : State, step s = .next t →
    (t.out.wr_ack_o = true ↔
      (s.presents .write = true ∧ adv s.params.S s.wc ≠ s.rv) ∨ s.presents .writeUnchecked = true) ∧
    (t.out.rd_valid_o = true ↔ (s.presents .read = true ∨ s.presents .readUnchecked = true) ∧ s.rc ≠ s.wv) ∧
    (t.out.rd_valid_o = true → s.storage.read s.rc = some t.out.rd_data_o)

/-- R67: the status and pointer outputs of a cycle, whatever its command. That this takes in `full_o` and `empty_o` of a
`NEW` cycle in `EXTERNAL` mode is the model's reading beside "the view inputs are ignored" of R80 and R49 (DEDUCED, log
entry 14). -/
def Obligations.StatusOutputs : Prop :=
  ∀ s t : State, step s = .next t →
    t.out.full_o = decide (adv s.params.S s.wc = s.rv) ∧ t.out.empty_o = decide (s.rc = s.wv) ∧
    t.out.wptr_o = s.wc ∧ t.out.rptr_o = s.rc ∧
    (s.params.viewMode = .direct → t.out.full_o = s.isFull ∧ t.out.empty_o = s.isEmpty) ∧
    (s.presents .write = true → t.out.wr_ack_o = !t.out.full_o) ∧
    (s.presentsRead = true → t.out.rd_valid_o = !t.out.empty_o)

/-- R48: the views. -/
def Obligations.ViewsOfTheOtherCursor : Prop :=
  ∀ s : State,
    (s.params.viewMode = .direct → s.rv = s.rc ∧ s.wv = s.wc) ∧
    (s.params.viewMode = .external → s.rv = s.ports.rptr_view_i ∧ s.wv = s.ports.wptr_view_i)

/-- R51: in `DIRECT` mode a cycle is one of the two sequential orders, and which one. The commands are run one after
the other, each on the state the other left. -/
def Obligations.CycleIsASequentialOrder : Prop :=
  ∀ (s : State) (w r : Instr), s.Inv → s.params.viewMode = .direct → w.format = .w → r.format = .r →
    let readFirst := match exec r s with
      | .next b => exec w b
      | o => o
    let writeFirst := match exec w s with
      | .next a => exec r a
      | o => o
    (s.isEmpty = true → bothSides w r s = readFirst) ∧
    (s.isFull = true → w = .write → bothSides w r s = writeFirst) ∧
    (s.isFull = true → w = .writeUnchecked → bothSides w r s = readFirst) ∧
    (s.isEmpty = false → s.isFull = false → bothSides w r s = readFirst ∧ bothSides w r s = writeFirst) ∧
    (s.params.S = 1 → bothSides w r s = readFirst ∧ bothSides w r s = writeFirst)

/-- R115: the two sides do not interact except through the cursors before the edge. -/
def Obligations.SidesDoNotInteract : Prop :=
  ∀ (s t t' : State) (cw : CommandWord), s.ports.cw.getLsbD 4 = false → cw.getLsbD 4 = false →
    step s = .next t → step (s.setCommand cw) = .next t' →
    (cw.extractLsb' 0 2 = s.ports.cw.extractLsb' 0 2 →
      t'.storage = t.storage ∧ t'.wc = t.wc ∧ t'.out.wr_ack_o = t.out.wr_ack_o) ∧
    (cw.extractLsb' 2 2 = s.ports.cw.extractLsb' 2 2 →
      t'.rc = t.rc ∧ t'.out.rd_valid_o = t.out.rd_valid_o ∧ t'.out.rd_data_o = t.out.rd_data_o)

/-- R65: an operand port the decoded command does not use is ignored: `fill_i` outside `NEW`, `wr_data_i` where
nothing is stored, the views in `DIRECT` mode. -/
def Obligations.UnusedOperandPortsAreIgnored : Prop :=
  ∀ (s : State) (v : Elem) (x y : Nat),
    (s.presents .new = false → step { s with ports := { s.ports with fill_i := v } } = step s) ∧
    (s.presents .writeUnchecked = false → (s.presents .write = true → s.fullO = true) →
      step { s with ports := { s.ports with wr_data_i := v } } = step s) ∧
    (s.params.viewMode = .direct →
      step { s with ports := { s.ports with rptr_view_i := x, wptr_view_i := y } } = step s)

/-- R144, first point, and R80: in a `NEW` cycle the other command bits and the other operands are ignored: they
change neither the state elements nor the results, and in `DIRECT` mode they change nothing at all. -/
def Obligations.NewOverridesTheOtherPorts : Prop :=
  ∀ (s : State) (i : Inputs), s.params.wf = true → s.ports.cw.getLsbD 4 = true → i.cw.getLsbD 4 = true →
    i.fill_i = s.ports.fill_i →
    ∃ t t', step s = .next t ∧ step { s with ports := i } = .next t' ∧
      t'.storage = t.storage ∧ t'.wc = t.wc ∧ t'.rc = t.rc ∧ t'.out.wr_ack_o = t.out.wr_ack_o ∧
      t'.out.rd_valid_o = t.out.rd_valid_o ∧ (s.params.viewMode = .direct → t' = t)

/-- R116: the occupancy law of a cycle that is no `NEW`, and that it wraps in `DIRECT` mode in an overrun only. -/
def Obligations.OccupancyLaw : Prop :=
  ∀ s t : State, s.Inv → step s = .next t → s.presents .new = false →
    (t.occ + t.out.rd_valid_o.toNat) % s.params.S = (s.occ + t.out.wr_ack_o.toNat) % s.params.S ∧
    (s.params.viewMode = .direct → s.overrun = false →
      t.occ + t.out.rd_valid_o.toNat = s.occ + t.out.wr_ack_o.toNat) ∧
    (s.overrun = true → t.occ = 0)

/-- R46, R50: in the cycle that advances the write cursor the element is in its slot as well. -/
def Obligations.StoreAndPublishTogether : Prop :=
  ∀ s t : State, step s = .next t → s.presents .new = false →
    (t.out.wr_ack_o = true → t.wc = adv s.params.S s.wc ∧ t.storage.read s.wc = some s.ports.wr_data_i) ∧
    (t.wc ≠ s.wc → t.out.wr_ack_o = true)

/-! ## Conditions -/

/-- R24, R25: the two conditions, and what the tests see in `DIRECT` mode. -/
def Obligations.EmptyAndFullConditions : Prop :=
  ∀ s : State, s.Inv →
    (s.isEmpty = true ↔ s.rc = s.wc) ∧
    (s.isFull = true ↔ (s.wc + 1) % s.params.S = s.rc) ∧
    (s.params.viewMode = .direct → s.emptyO = s.isEmpty ∧ s.fullO = s.isFull)

/-- R26, R27: the occupancy decides the two conditions; they exclude each other iff `S ≥ 2`; the unread run has `occ`
elements and never includes slot `wc`. -/
def Obligations.OccupancyDecidesTheConditions : Prop :=
  ∀ s : State, s.Inv →
    (s.occ : Int) = ((s.wc : Int) - (s.rc : Int)) % (s.params.S : Int) ∧ s.occ < s.params.S ∧
    (s.isEmpty = true ↔ s.occ = 0) ∧ (s.isFull = true ↔ s.occ = s.params.S - 1) ∧
    ((s.isEmpty = true ∧ s.isFull = true) ↔ s.params.S = 1) ∧
    s.unread.length = s.occ ∧ (∀ k, k < s.occ → (s.rc + k) % s.params.S ≠ s.wc) ∧
    (s.rc + s.occ) % s.params.S = s.wc

/-! ## Reset and invariants -/

/-- R33, R160: what reset leaves, for the free fill value (R34). The instance and the model's own fields are the
model's choice (log entries 1 to 5). -/
def Obligations.ResetIsConstructed : Prop :=
  ∃ v, v < 2 ^ State.reset.params.W ∧ State.reset.Constructed v

/-- The invariant holds at reset. -/
def Obligations.ResetMeetsTheInvariant : Prop := State.reset.Inv

/-- Every step keeps the invariant: the canonical storage of exactly `S` slots of `W` bits, the cursors below `S`,
and ports of their widths. -/
def Obligations.StepKeepsTheInvariant : Prop := ∀ s t : State, s.Inv → step s = .next t → t.Inv

/-- R23, Invariant A: cursors in range stay in range, whatever the ports show (U5: under a broken view duty too). -/
def Obligations.CursorsStayInRange : Prop :=
  ∀ s t : State, step s = .next t →
    (s.wc < s.params.S → s.rc < s.params.S → t.wc < t.params.S ∧ t.rc < t.params.S) ∧
    (t.wc = s.wc ∨ t.wc = 0 ∨ t.wc = adv s.params.S s.wc) ∧
    (t.rc = s.rc ∨ t.rc = 0 ∨ t.rc = adv s.params.S s.rc) ∧
    adv s.params.S (s.params.S - 1) = 0 ∧
    (s.presents .new = true → t.wc < t.params.S ∧ t.rc < t.params.S)

/-- R140, R172: no command stops the block, in any state of an instance and with any operands: every run goes on. -/
def Obligations.NoRunStops : Prop :=
  ∀ (s : State) (n : Nat), s.Inv → ∃ t : State, Sys2Proof.core.run n s = .next t ∧ t.Inv

/-- Where the model stops. A cursor that names no slot is a state the spec knows only before the first `NEW` (R34;
log entry 10); an instance without slots or without bits does not exist (U6; log entry 11). -/
def Obligations.StopsOnlyOutsideTheInstance : Prop :=
  (∀ (i : Instr) (s : State) (f : Fault), exec i s = .fault f →
    f = .noSuchSlot ∧
      ((i.format = .w ∧ s.storage.read s.wc = none) ∨ (i.format = .r ∧ s.storage.read s.rc = none))) ∧
  (∀ (i : Instr) (s : State) (e : Refusal), exec i s ≠ .refused e) ∧
  (∀ (s : State) (e : Refusal), step s = .refused e ↔ e = .noInstance ∧ s.params.wf = false)

/-- R173: the parameters never change, and the ports show the scripted values in order (the script is the model's,
log entry 2). -/
def Obligations.ParametersNeverChange : Prop :=
  ∀ s t : State, step s = .next t →
    t.params = s.params ∧ ∀ i rest, s.env = i :: rest → t.ports = i ∧ t.env = rest

/-! ## Runs -/

/-- The cursors count the transfers of a run modulo `S` (R111, R119), in either mode, overruns included; so after
`k` rounds of `S - 1` stores and `S - 1` deliveries from `NEW` both stand at `(S - k mod S) mod S` (R123). -/
def Obligations.CursorsCountTransfers : Prop :=
  ∀ (σ : Nat → State) (n : Nat), Run σ n → (σ 0).Inv → NoNew σ n →
    (σ n).wc = ((σ 0).wc + (accepted σ n).length) % (σ 0).params.S ∧
    (σ n).rc = ((σ 0).rc + (delivered σ n).length) % (σ 0).params.S ∧
    (∀ k, (σ 0).wc = 0 → (σ 0).rc = 0 → (accepted σ n).length = k * ((σ 0).params.S - 1) →
      (delivered σ n).length = k * ((σ 0).params.S - 1) →
      (σ n).wc = ((σ 0).params.S - k % (σ 0).params.S) % (σ 0).params.S ∧ (σ n).rc = (σ n).wc)

/-- R121: first in, first out, in `DIRECT` mode, without an overrun: what was unread and what has been accepted is
what has been delivered and what is unread, in order; from an empty buffer the deliveries are a prefix of the
stores and trail them by `occ`. -/
def Obligations.FifoOrder : Prop :=
  ∀ (σ : Nat → State) (n : Nat), Run σ n → (σ 0).Inv → (σ 0).params.viewMode = .direct → NoNew σ n →
    NoOverrun σ n →
    (σ 0).unread ++ accepted σ n = delivered σ n ++ (σ n).unread ∧
    ((σ 0).isEmpty = true →
      delivered σ n <+: accepted σ n ∧ (accepted σ n).length = (delivered σ n).length + (σ n).occ)

/-- R57: the bounds on the lags of the views, in `EXTERNAL` mode under the duty of R49 with a producer that uses only
`WRITE`, that the outputs err toward full and toward empty, and that a store never goes to the slot delivered in the
same cycle. Cycle `0` is the first after a `NEW`. -/
def Obligations.StaleViewsStayBehind : Prop :=
  ∀ (σ : Nat → State) (n : Nat) (dr dw : Nat → Nat), Run σ n → (σ 0).Inv →
    (σ 0).params.viewMode = .external → (σ 0).wc = 0 → (σ 0).rc = 0 → NoNew σ n → CheckedOnly σ n →
    ViewDuty σ n dr dw →
    ∀ t, t ≤ n →
      (σ t).occ + lagR σ dr t ≤ (σ t).params.S - 1 ∧ lagW σ dw t ≤ (σ t).occ ∧
      ((σ t).isFull = true → (σ t).fullO = true) ∧ ((σ t).isEmpty = true → (σ t).emptyO = true) ∧
      (t < n → gave σ t = true → (σ t).rc ≠ (σ t).wc)

/-- R57: first in, first out, in `EXTERNAL` mode, under the duty of R49 with a producer that uses only `WRITE`. -/
def Obligations.FifoOrderWithStaleViews : Prop :=
  ∀ (σ : Nat → State) (n : Nat) (dr dw : Nat → Nat), Run σ n → (σ 0).Inv →
    (σ 0).params.viewMode = .external → (σ 0).wc = 0 → (σ 0).rc = 0 → NoNew σ n → CheckedOnly σ n →
    ViewDuty σ n dr dw →
    accepted σ n = delivered σ n ++ (σ n).unread ∧ (accepted σ n).length = (delivered σ n).length + (σ n).occ

/-- R120: from an empty buffer, while no read delivers, exactly the first `S - 1` `WRITE` commands succeed. -/
def Obligations.CapacityIsOneLessThanTheSlots : Prop :=
  ∀ (σ : Nat → State) (n : Nat), Run σ n → (σ 0).Inv → (σ 0).params.viewMode = .direct →
    (σ 0).isEmpty = true → (∀ t, t < n → (σ t).presents .write = true ∨ (σ t).presents .wnop = true) →
    (∀ t, t < n → gave σ t = false) →
    ∀ t, t < n → (σ t).presents .write = true →
      stored σ t =
        decide (((List.range t).filter fun k => (σ k).presents .write).length < (σ 0).params.S - 1)

/-- R122: as many deliveries as stores since the buffer was empty leave it empty; from there, until a write stores,
no read delivers and nothing changes. -/
def Obligations.EmptyAfterDrain : Prop :=
  (∀ (σ : Nat → State) (n : Nat), Run σ n → (σ 0).Inv → (σ 0).params.viewMode = .direct → NoNew σ n →
    (σ 0).isEmpty = true → (delivered σ n).length = (accepted σ n).length → (σ n).rc = (σ n).wc) ∧
  (∀ (σ : Nat → State) (n : Nat), Run σ n → (σ 0).Inv → (σ 0).params.viewMode = .direct → NoNew σ n →
    (σ 0).rc = (σ 0).wc → (∀ t, t < n → stored σ t = false) →
    ∀ t, t < n → gave σ t = false ∧ (σ (t + 1)).storage = (σ 0).storage ∧
      (σ (t + 1)).wc = (σ 0).wc ∧ (σ (t + 1)).rc = (σ 0).rc)

/-- R102, R103: an overrun cycle stores into the sentinel slot and leaves the buffer empty: every unread element, and
the one just stored, are out of the consumer's sight, though every other slot keeps its element. -/
def Obligations.OverrunLosesAWholeLap : Prop :=
  ∀ s t : State, s.Inv → step s = .next t → s.overrun = true →
    t.rc = s.rc ∧ t.wc = t.rc ∧ t.unread = [] ∧ s.unread.length = s.params.S - 1 ∧
    t.storage.read s.wc = some s.ports.wr_data_i ∧
    (∀ a, a ≠ s.wc → t.storage.read a = s.storage.read a) ∧
    t.out.wr_ack_o = true ∧ t.out.rd_valid_o = false

/-- R124, R102: `k` unchecked writes from `NEW` with no delivery between them, then reads with no store: the cursors,
and exactly the last `k mod S` values are delivered, oldest first. -/
def Obligations.UncheckedWritesKeepTheLastPartLap : Prop :=
  ∀ (σ : Nat → State) (k m : Nat), Run σ (k + m) → (σ 0).Inv → (σ 0).params.viewMode = .direct →
    (σ 0).wc = 0 → (σ 0).rc = 0 → NoNew σ (k + m) →
    (∀ t, t < k → (σ t).presents .writeUnchecked = true ∧ gave σ t = false) →
    (∀ t, k ≤ t → t < k + m → stored σ t = false) →
    (σ k).wc = k % (σ 0).params.S ∧ (σ k).rc = 0 ∧ (σ k).occ = k % (σ 0).params.S ∧
    accepted σ k = (List.range k).map (fun t => (σ t).ports.wr_data_i) ∧
    (σ k).unread = (accepted σ k).drop (k - k % (σ 0).params.S) ∧
    delivered σ (k + m) <+: (accepted σ k).drop (k - k % (σ 0).params.S) ∧
    ((σ (k + m)).isEmpty = true → delivered σ (k + m) = (accepted σ k).drop (k - k % (σ 0).params.S))

/-- R169, R80: in `DIRECT` mode, overruns included, a read delivers only what a write has stored since `NEW`, never
the fill value as such; the unread run is made of the last values stored. -/
def Obligations.OnlyStoredElementsAreDelivered : Prop :=
  ∀ (σ : Nat → State) (n : Nat), Run σ n → (σ 0).Inv → (σ 0).params.viewMode = .direct →
    (σ 0).wc = 0 → (σ 0).rc = 0 → NoNew σ n →
    (σ n).unread <:+ accepted σ n ∧
    ∀ t, t < n → gave σ t = true → (σ (t + 1)).out.rd_data_o ∈ accepted σ t

/-- R168: in `DIRECT` mode a condition a side does not see can come up only by that side's own transfers. -/
def Obligations.SeenConditionsAreStable : Prop :=
  ∀ (σ : Nat → State) (n : Nat), Run σ n → (σ 0).Inv → (σ 0).params.viewMode = .direct → NoNew σ n →
    ((σ 0).fullO = false → (∀ t, t < n → stored σ t = false) → (σ n).fullO = false) ∧
    ((σ 0).emptyO = false → (∀ t, t < n → gave σ t = false) → NoOverrun σ n → (σ n).emptyO = false)

/-- R168 in `EXTERNAL` mode, under the duty of R49 and with a producer that uses only `WRITE`. -/
def Obligations.SeenConditionsAreStableWithStaleViews : Prop :=
  ∀ (σ : Nat → State) (n m : Nat) (dr dw : Nat → Nat), Run σ n → (σ 0).Inv →
    (σ 0).params.viewMode = .external → (σ 0).wc = 0 → (σ 0).rc = 0 → NoNew σ n → CheckedOnly σ n →
    ViewDuty σ n dr dw → m ≤ n →
    ((σ m).fullO = false → (∀ t, m ≤ t → t < n → stored σ t = false) → (σ n).fullO = false) ∧
    ((σ m).emptyO = false → (∀ t, m ≤ t → t < n → gave σ t = false) → (σ n).emptyO = false)

/-- R92: while the producer uses only `WRITE`, a slot that has just been delivered keeps its element until the next
delivery. -/
def Obligations.DeliveredSlotKeepsItsElement : Prop :=
  ∀ (σ : Nat → State) (n : Nat), Run σ (n + 1) → (σ 0).Inv → (σ 0).params.viewMode = .direct →
    gave σ 0 = true → (∀ t, t ≤ n → (σ t).presents .write = true ∨ (σ t).presents .wnop = true) →
    (∀ t, 1 ≤ t → t ≤ n → gave σ t = false) →
    (σ (n + 1)).storage.read (σ 0).rc = (σ 0).storage.read (σ 0).rc ∧
    (σ (n + 1)).rc = adv (σ 0).params.S (σ 0).rc

/-- R125 for every size, every sequence of values and every schedule: a producer that retries each value until it is
accepted and a consumer that reads when it likes: the deliveries are a prefix of the values, and all of them once
there are as many. -/
def Obligations.RetryingProducerIsHeardInOrder : Prop :=
  ∀ (σ : Nat → State) (n : Nat) (vs : List Elem), Run σ n → (σ 0).Inv → (σ 0).wc = 0 → (σ 0).rc = 0 →
    ProducerRetries σ n vs →
    ((σ 0).params.viewMode = .direct ∨
      ((σ 0).params.viewMode = .external ∧ ∃ dr dw, ViewDuty σ n dr dw)) →
    delivered σ n <+: vs ∧ ((delivered σ n).length = vs.length → delivered σ n = vs)

/-- R49 and R172, a bound on progress: what had been stored by cycle `t` has been delivered, in order, once the
consumer has presented `S - 1` reads from a cycle `u` on from which its view shows the write cursor of cycle `t` or
a later one (in `DIRECT` mode, from `t` on). -/
def Obligations.StoredElementsAreDeliveredInTime : Prop :=
  ∀ (σ : Nat → State) (n t u : Nat), Run σ n → (σ 0).Inv → (σ 0).wc = 0 → (σ 0).rc = 0 → NoNew σ n →
    t ≤ u → u ≤ n →
    (σ 0).params.S - 1 ≤ ((List.range n).filter fun k => decide (u ≤ k) && (σ k).presentsRead).length →
    (((σ 0).params.viewMode = .direct ∧ NoOverrun σ n) ∨
      ((σ 0).params.viewMode = .external ∧ CheckedOnly σ n ∧ ∃ dr dw, ViewDuty σ n dr dw ∧ t ≤ dw u)) →
    accepted σ t <+: delivered σ n

/-- R32: every pair of cursors below `S` is reached from a constructed state by checked commands alone. -/
def Obligations.EveryCursorPairIsReachable : Prop :=
  ∀ (s : State) (r w : Nat), s.Inv → s.params.viewMode = .direct → s.wc = 0 → s.rc = 0 →
    r < s.params.S → w < s.params.S →
    ∃ (script : List Inputs) (t : State),
      (∀ i ∈ script, i.wf s.params = true ∧
        (decode i.cw = .pair .write .rnop ∨ decode i.cw = .pair .wnop .read)) ∧
      driven script s = .next t ∧ t.rc = r ∧ t.wc = w

/-- R131, R27: the one-slot instance in `DIRECT` mode: always empty and full; no checked write is accepted, no read
delivers, an unchecked write stores into slot `0` and moves nothing. -/
def Obligations.OneSlotInstance : Prop :=
  ∀ s t : State, s.Inv → s.params.viewMode = .direct → s.params.S = 1 → step s = .next t →
    s.params.AW = 1 ∧ s.wc = 0 ∧ s.rc = 0 ∧ s.isEmpty = true ∧ s.isFull = true ∧
    t.wc = 0 ∧ t.rc = 0 ∧ t.out.rd_valid_o = false ∧
    t.out.wr_ack_o = s.presents .writeUnchecked ∧
    (s.presents .writeUnchecked = true → t.storage.read 0 = some s.ports.wr_data_i) ∧
    (s.presents .new = true → t.storage.read 0 = some s.ports.fill_i)

/-- R144, R141: the two negative outcomes of one cycle: both together only in the one-slot instance, in `DIRECT`
mode; a negative outcome of a side changes no state element of that side. -/
def Obligations.NegativeOutcomesChangeNothing : Prop :=
  ∀ s t : State, s.Inv → step s = .next t →
    (s.presents .write = true → t.out.wr_ack_o = false → t.storage = s.storage ∧ t.wc = s.wc) ∧
    (s.presentsRead = true → t.out.rd_valid_o = false → t.rc = s.rc) ∧
    (s.params.viewMode = .direct → s.presents .write = true → s.presentsRead = true →
      t.out.wr_ack_o = false → t.out.rd_valid_o = false → s.params.S = 1)
end

