-- ==== Sys2Proof/Laws/Advance.lean ====
section
/-! SUPPORT. The arithmetic of the index advance and of the occupancy. -/

namespace Sys2Proof

theorem adv_lt {S i : Nat} (h : i < S) : adv S i < S := by
  unfold adv; split <;> omega

theorem adv_eq_mod {S i : Nat} (h : i < S) : adv S i = (i + 1) % S := by
  unfold adv
  split
  · next e => rw [e, Nat.mod_self]
  · next e => rw [Nat.mod_eq_of_lt (by omega)]

/-- A distance counted modulo `S`, without a remainder. -/
def ahead (S from_ to_ : Nat) : Nat := if from_ ≤ to_ then to_ - from_ else to_ + S - from_

theorem ahead_lt {S r w : Nat} (hr : r < S) (hw : w < S) : ahead S r w < S := by
  unfold ahead; split <;> omega

theorem ahead_self (S r : Nat) : ahead S r r = 0 := by simp [ahead]

theorem ahead_eq_zero {S r w : Nat} (hr : r < S) : ahead S r w = 0 ↔ r = w := by
  unfold ahead; split <;> omega

theorem ahead_full {S r w : Nat} (hr : r < S) (hw : w < S) : ahead S r w = S - 1 ↔ adv S w = r := by
  unfold ahead adv; split <;> split <;> omega

theorem ahead_adv_to {S r w : Nat} (hr : r < S) (hw : w < S) :
    ahead S r (adv S w) = if ahead S r w = S - 1 then 0 else ahead S r w + 1 := by
  unfold ahead adv; repeat' split
  all_goals omega

theorem ahead_adv_from {S r w : Nat} (hw : w < S) :
    ahead S (adv S r) w = if r = w then S - 1 else ahead S r w - 1 := by
  unfold ahead adv; repeat' split
  all_goals omega

/-- Going the distance leads from one cursor to the other. -/
theorem add_ahead_mod {S r w : Nat} (hr : r < S) (hw : w < S) : (r + ahead S r w) % S = w := by
  unfold ahead
  split
  · next h => rw [show r + (w - r) = w by omega, Nat.mod_eq_of_lt hw]
  · next h => rw [show r + (w + S - r) = w + S by omega, Nat.add_mod_right, Nat.mod_eq_of_lt hw]

/-- A number of places below the distance does not reach the other cursor. -/
theorem add_mod_ne_of_lt_ahead {S r w k : Nat} (hr : r < S) (hw : w < S) (hk : k < ahead S r w) : (r + k) % S ≠ w := by
  unfold ahead at hk
  split at hk
  · rw [Nat.mod_eq_of_lt (by omega)]; omega
  · by_cases h : r + k < S
    · rw [Nat.mod_eq_of_lt h]; omega
    · rw [show r + k = (r + k - S) + S by omega, Nat.add_mod_right, Nat.mod_eq_of_lt (by omega)]; omega

theorem adv_add_mod {S i k : Nat} (h : i < S) : (adv S i + k) % S = (i + (k + 1)) % S := by
  rw [adv_eq_mod h, Nat.mod_add_mod, Nat.add_assoc, Nat.add_comm 1 k]

namespace Machine

theorem State.occ_eq (s : State) : s.occ = ahead s.params.S s.rc s.wc := rfl

theorem State.fullO_iff (s : State) : s.fullO = true ↔ adv s.params.S s.wc = s.rv := by
  simp [State.fullO]

theorem State.emptyO_iff (s : State) : s.emptyO = true ↔ s.rc = s.wv := by simp [State.emptyO]

theorem State.isFull_iff (s : State) : s.isFull = true ↔ adv s.params.S s.wc = s.rc := by
  simp [State.isFull]

theorem State.isEmpty_iff (s : State) : s.isEmpty = true ↔ s.rc = s.wc := by simp [State.isEmpty]

theorem State.rv_direct {s : State} (h : s.params.viewMode = .direct) : s.rv = s.rc := by simp [State.rv, h]
theorem State.wv_direct {s : State} (h : s.params.viewMode = .direct) : s.wv = s.wc := by simp [State.wv, h]
theorem State.rv_external {s : State} (h : s.params.viewMode = .external) : s.rv = s.ports.rptr_view_i := by
  simp [State.rv, h]
theorem State.wv_external {s : State} (h : s.params.viewMode = .external) : s.wv = s.ports.wptr_view_i := by
  simp [State.wv, h]

end Machine
end Sys2Proof
end

