-- ==== Sys2Proof/Laws/Memory.lean ====
section
/-! SUPPORT. The laws of the slot storage: read after write, and that every operation keeps the canonical form. -/

namespace Sys2Proof

@[simp] theorem Memory.read_nil (a : Nat) : read [] a = none := rfl

theorem Memory.read_cons (c : Slot) (m : Memory) (a : Nat) : read (c :: m) a = if a = c.1 then some c.2 else read m a := by
  obtain ⟨k, v⟩ := c
  by_cases h : a = k
  · simp [read, List.lookup, h]
  · simp [read, List.lookup, h, beq_false_of_ne h]

/-- A slot can be read iff its number is listed. -/
theorem Memory.read_isSome (m : Memory) (a : Nat) : (read m a).isSome = true ↔ a ∈ m.map Prod.fst := by
  induction m with
  | nil => simp
  | cons c m ih => rw [read_cons]; by_cases h : a = c.1 <;> simp_all

theorem Memory.read_mem {m : Memory} {a : Nat} {v : Elem} (h : read m a = some v) : (a, v) ∈ m := by
  induction m with
  | nil => simp at h
  | cons c m ih =>
    rw [read_cons] at h
    split at h
    · next hc => cases h; simp [hc]
    · exact List.mem_cons_of_mem _ (ih h)

@[simp] theorem Memory.put_keys (m : Memory) (a : Nat) (v : Elem) : (put m a v).map Prod.fst = m.map Prod.fst := by
  simp only [put, List.map_map]
  refine List.map_congr_left fun c _ => ?_
  by_cases h : c.1 = a <;> simp [h]

theorem Memory.put_cons (c : Slot) (m : Memory) (a : Nat) (v : Elem) :
    put (c :: m) a v = (if c.1 = a then (c.1, v) else c) :: put m a v := rfl

/-- Read after write: the written slot reads as the written element, every other slot as before. -/
theorem Memory.read_put (m : Memory) (a b : Nat) (v : Elem) :
    read (put m a v) b = if b = a then (read m a).map (fun _ => v) else read m b := by
  induction m with
  | nil => simp [put]
  | cons c m ih =>
    rw [put_cons, read_cons, read_cons, read_cons, ih]
    by_cases hb : b = a
    · subst hb
      by_cases hc : c.1 = b
      · simp [hc]
      · simp [hc, Ne.symm hc]
    · by_cases hc : c.1 = a
      · simp [hc, hb]
      · simp [hc, hb]

theorem Memory.put_mem {m : Memory} {a : Nat} {v : Elem} {c : Slot} (h : c ∈ put m a v) : c ∈ m ∨ c.2 = v := by
  simp only [put, List.mem_map] at h
  obtain ⟨d, hd, rfl⟩ := h
  split
  · exact Or.inr rfl
  · exact Or.inl hd

@[simp] theorem Memory.wf_put (S : Nat) (m : Memory) (a : Nat) (v : Elem) : wf S (put m a v) = wf S m := by
  simp only [wf, put_keys]

@[simp] theorem Memory.wf_filled (S : Nat) (v : Elem) : wf S (filled S v) = true := by
  simp [wf, filled, List.map_map, Function.comp_def]

theorem Memory.filled_mem {S : Nat} {v : Elem} {c : Slot} (h : c ∈ filled S v) : c.2 = v := by
  simp only [filled, List.mem_map] at h
  obtain ⟨_, _, rfl⟩ := h
  rfl

/-- In canonical form exactly the slots `0 .. S-1` can be read. -/
theorem Memory.read_isSome_of_wf {S : Nat} {m : Memory} (h : wf S m = true) (a : Nat) :
    (read m a).isSome = true ↔ a < S := by
  have hk : m.map Prod.fst = List.range S := by simpa [wf] using h
  rw [read_isSome, hk, List.mem_range]

theorem Memory.read_some_of_wf {S : Nat} {m : Memory} (h : wf S m = true) {a : Nat} (ha : a < S) :
    ∃ v, read m a = some v := Option.isSome_iff_exists.mp ((read_isSome_of_wf h a).mpr ha)

theorem Memory.read_none_of_wf {S : Nat} {m : Memory} (h : wf S m = true) {a : Nat} (ha : S ≤ a) : read m a = none := by
  have := read_isSome_of_wf h a
  cases hr : read m a with
  | none => rfl
  | some v => simp [hr] at this; omega

/-- After construction every slot reads as the fill value. -/
theorem Memory.read_filled (S : Nat) (v : Elem) (a : Nat) : read (filled S v) a = if a < S then some v else none := by
  split
  · next h =>
    obtain ⟨w, hw⟩ := read_some_of_wf (wf_filled S v) h
    rw [hw, show w = v from filled_mem (read_mem hw)]
  · next h => exact read_none_of_wf (wf_filled S v) (by omega)

/-- A read after a write in canonical form: every number answered. -/
theorem Memory.read_put_of_wf {S : Nat} {m : Memory} (h : wf S m = true) {a : Nat} (ha : a < S) (v : Elem) (b : Nat) :
    read (put m a v) b = if b = a then some v else read m b := by
  obtain ⟨w, hw⟩ := read_some_of_wf h ha
  rw [read_put, hw]; rfl

end Sys2Proof
end

