-- ==== Sys2Proof/Laws/State.lean ====
section
/-! SUPPORT. One lemma for each field and each update of the state, true by unfolding, so that no proof unfolds a
record update. -/

namespace Sys2Proof.Machine

open Sys2Proof

/-! ## `setStorage` -/

@[simp] theorem State.setStorage_params (s : State) (m : Memory) : (s.setStorage m).params = s.params := rfl
@[simp] theorem State.setStorage_storage (s : State) (m : Memory) : (s.setStorage m).storage = m := rfl
@[simp] theorem State.setStorage_wc (s : State) (m : Memory) : (s.setStorage m).wc = s.wc := rfl
@[simp] theorem State.setStorage_rc (s : State) (m : Memory) : (s.setStorage m).rc = s.rc := rfl
@[simp] theorem State.setStorage_ports (s : State) (m : Memory) : (s.setStorage m).ports = s.ports := rfl
@[simp] theorem State.setStorage_env (s : State) (m : Memory) : (s.setStorage m).env = s.env := rfl
@[simp] theorem State.setStorage_draw (s : State) (m : Memory) : (s.setStorage m).draw = s.draw := rfl
@[simp] theorem State.setStorage_out (s : State) (m : Memory) : (s.setStorage m).out = s.out := rfl

/-! ## `setWc` -/

@[simp] theorem State.setWc_params (s : State) (i : Nat) : (s.setWc i).params = s.params := rfl
@[simp] theorem State.setWc_storage (s : State) (i : Nat) : (s.setWc i).storage = s.storage := rfl
@[simp] theorem State.setWc_wc (s : State) (i : Nat) : (s.setWc i).wc = i := rfl
@[simp] theorem State.setWc_rc (s : State) (i : Nat) : (s.setWc i).rc = s.rc := rfl
@[simp] theorem State.setWc_ports (s : State) (i : Nat) : (s.setWc i).ports = s.ports := rfl
@[simp] theorem State.setWc_env (s : State) (i : Nat) : (s.setWc i).env = s.env := rfl
@[simp] theorem State.setWc_draw (s : State) (i : Nat) : (s.setWc i).draw = s.draw := rfl
@[simp] theorem State.setWc_out (s : State) (i : Nat) : (s.setWc i).out = s.out := rfl

/-! ## `setRc` -/

@[simp] theorem State.setRc_params (s : State) (i : Nat) : (s.setRc i).params = s.params := rfl
@[simp] theorem State.setRc_storage (s : State) (i : Nat) : (s.setRc i).storage = s.storage := rfl
@[simp] theorem State.setRc_wc (s : State) (i : Nat) : (s.setRc i).wc = s.wc := rfl
@[simp] theorem State.setRc_rc (s : State) (i : Nat) : (s.setRc i).rc = i := rfl
@[simp] theorem State.setRc_ports (s : State) (i : Nat) : (s.setRc i).ports = s.ports := rfl
@[simp] theorem State.setRc_env (s : State) (i : Nat) : (s.setRc i).env = s.env := rfl
@[simp] theorem State.setRc_draw (s : State) (i : Nat) : (s.setRc i).draw = s.draw := rfl
@[simp] theorem State.setRc_out (s : State) (i : Nat) : (s.setRc i).out = s.out := rfl

/-! ## `setWrAck` -/

@[simp] theorem State.setWrAck_params (s : State) (b : Bool) : (s.setWrAck b).params = s.params := rfl
@[simp] theorem State.setWrAck_storage (s : State) (b : Bool) : (s.setWrAck b).storage = s.storage := rfl
@[simp] theorem State.setWrAck_wc (s : State) (b : Bool) : (s.setWrAck b).wc = s.wc := rfl
@[simp] theorem State.setWrAck_rc (s : State) (b : Bool) : (s.setWrAck b).rc = s.rc := rfl
@[simp] theorem State.setWrAck_ports (s : State) (b : Bool) : (s.setWrAck b).ports = s.ports := rfl
@[simp] theorem State.setWrAck_env (s : State) (b : Bool) : (s.setWrAck b).env = s.env := rfl
@[simp] theorem State.setWrAck_draw (s : State) (b : Bool) : (s.setWrAck b).draw = s.draw := rfl
@[simp] theorem State.setWrAck_out_wr_ack_o (s : State) (b : Bool) : (s.setWrAck b).out.wr_ack_o = b := rfl
@[simp] theorem State.setWrAck_out_full_o (s : State) (b : Bool) : (s.setWrAck b).out.full_o = s.out.full_o := rfl
@[simp] theorem State.setWrAck_out_wptr_o (s : State) (b : Bool) : (s.setWrAck b).out.wptr_o = s.out.wptr_o := rfl
@[simp] theorem State.setWrAck_out_rd_valid_o (s : State) (b : Bool) : (s.setWrAck b).out.rd_valid_o = s.out.rd_valid_o := rfl
@[simp] theorem State.setWrAck_out_rd_data_o (s : State) (b : Bool) : (s.setWrAck b).out.rd_data_o = s.out.rd_data_o := rfl
@[simp] theorem State.setWrAck_out_empty_o (s : State) (b : Bool) : (s.setWrAck b).out.empty_o = s.out.empty_o := rfl
@[simp] theorem State.setWrAck_out_rptr_o (s : State) (b : Bool) : (s.setWrAck b).out.rptr_o = s.out.rptr_o := rfl

/-! ## `setRdResult` -/

@[simp] theorem State.setRdResult_params (s : State) (r : Option Elem) : (s.setRdResult r).params = s.params := rfl
@[simp] theorem State.setRdResult_storage (s : State) (r : Option Elem) : (s.setRdResult r).storage = s.storage := rfl
@[simp] theorem State.setRdResult_wc (s : State) (r : Option Elem) : (s.setRdResult r).wc = s.wc := rfl
@[simp] theorem State.setRdResult_rc (s : State) (r : Option Elem) : (s.setRdResult r).rc = s.rc := rfl
@[simp] theorem State.setRdResult_ports (s : State) (r : Option Elem) : (s.setRdResult r).ports = s.ports := rfl
@[simp] theorem State.setRdResult_env (s : State) (r : Option Elem) : (s.setRdResult r).env = s.env := rfl
@[simp] theorem State.setRdResult_draw (s : State) (r : Option Elem) : (s.setRdResult r).draw = s.draw := rfl
@[simp] theorem State.setRdResult_out_wr_ack_o (s : State) (r : Option Elem) : (s.setRdResult r).out.wr_ack_o = s.out.wr_ack_o := rfl
@[simp] theorem State.setRdResult_out_full_o (s : State) (r : Option Elem) : (s.setRdResult r).out.full_o = s.out.full_o := rfl
@[simp] theorem State.setRdResult_out_wptr_o (s : State) (r : Option Elem) : (s.setRdResult r).out.wptr_o = s.out.wptr_o := rfl
@[simp] theorem State.setRdResult_out_rd_valid_o (s : State) (r : Option Elem) : (s.setRdResult r).out.rd_valid_o = r.isSome := rfl
@[simp] theorem State.setRdResult_out_rd_data_o (s : State) (r : Option Elem) : (s.setRdResult r).out.rd_data_o = r.getD s.anyData := rfl
@[simp] theorem State.setRdResult_out_empty_o (s : State) (r : Option Elem) : (s.setRdResult r).out.empty_o = s.out.empty_o := rfl
@[simp] theorem State.setRdResult_out_rptr_o (s : State) (r : Option Elem) : (s.setRdResult r).out.rptr_o = s.out.rptr_o := rfl

/-! ## `driveStatus` -/

@[simp] theorem State.driveStatus_params (s : State) (p : State) : (s.driveStatus p).params = s.params := rfl
@[simp] theorem State.driveStatus_storage (s : State) (p : State) : (s.driveStatus p).storage = s.storage := rfl
@[simp] theorem State.driveStatus_wc (s : State) (p : State) : (s.driveStatus p).wc = s.wc := rfl
@[simp] theorem State.driveStatus_rc (s : State) (p : State) : (s.driveStatus p).rc = s.rc := rfl
@[simp] theorem State.driveStatus_ports (s : State) (p : State) : (s.driveStatus p).ports = s.ports := rfl
@[simp] theorem State.driveStatus_env (s : State) (p : State) : (s.driveStatus p).env = s.env := rfl
@[simp] theorem State.driveStatus_draw (s : State) (p : State) : (s.driveStatus p).draw = s.draw := rfl
@[simp] theorem State.driveStatus_out_wr_ack_o (s : State) (p : State) : (s.driveStatus p).out.wr_ack_o = s.out.wr_ack_o := rfl
@[simp] theorem State.driveStatus_out_full_o (s : State) (p : State) : (s.driveStatus p).out.full_o = p.fullO := rfl
@[simp] theorem State.driveStatus_out_wptr_o (s : State) (p : State) : (s.driveStatus p).out.wptr_o = p.wc := rfl
@[simp] theorem State.driveStatus_out_rd_valid_o (s : State) (p : State) : (s.driveStatus p).out.rd_valid_o = s.out.rd_valid_o := rfl
@[simp] theorem State.driveStatus_out_rd_data_o (s : State) (p : State) : (s.driveStatus p).out.rd_data_o = s.out.rd_data_o := rfl
@[simp] theorem State.driveStatus_out_empty_o (s : State) (p : State) : (s.driveStatus p).out.empty_o = p.emptyO := rfl
@[simp] theorem State.driveStatus_out_rptr_o (s : State) (p : State) : (s.driveStatus p).out.rptr_o = p.rc := rfl

/-! ## `nextCycle` -/

@[simp] theorem State.nextCycle_params (s : State) : s.nextCycle.params = s.params := rfl
@[simp] theorem State.nextCycle_storage (s : State) : s.nextCycle.storage = s.storage := rfl
@[simp] theorem State.nextCycle_wc (s : State) : s.nextCycle.wc = s.wc := rfl
@[simp] theorem State.nextCycle_rc (s : State) : s.nextCycle.rc = s.rc := rfl
@[simp] theorem State.nextCycle_ports (s : State) : s.nextCycle.ports = s.nextInputs := rfl
@[simp] theorem State.nextCycle_env (s : State) : s.nextCycle.env = s.env.tail := rfl
@[simp] theorem State.nextCycle_draw (s : State) : s.nextCycle.draw = s.draw + 1 := rfl
@[simp] theorem State.nextCycle_out (s : State) : s.nextCycle.out = s.out := rfl

/-! ## `setCommand` -/

@[simp] theorem State.setCommand_params (s : State) (cw : CommandWord) : (s.setCommand cw).params = s.params := rfl
@[simp] theorem State.setCommand_storage (s : State) (cw : CommandWord) : (s.setCommand cw).storage = s.storage := rfl
@[simp] theorem State.setCommand_wc (s : State) (cw : CommandWord) : (s.setCommand cw).wc = s.wc := rfl
@[simp] theorem State.setCommand_rc (s : State) (cw : CommandWord) : (s.setCommand cw).rc = s.rc := rfl
@[simp] theorem State.setCommand_ports (s : State) (cw : CommandWord) : (s.setCommand cw).ports = { s.ports with cw := cw } := rfl
@[simp] theorem State.setCommand_env (s : State) (cw : CommandWord) : (s.setCommand cw).env = s.env := rfl
@[simp] theorem State.setCommand_draw (s : State) (cw : CommandWord) : (s.setCommand cw).draw = s.draw := rfl
@[simp] theorem State.setCommand_out (s : State) (cw : CommandWord) : (s.setCommand cw).out = s.out := rfl

/-! ## `joinStates` -/

@[simp] theorem joinStates_params (a b : State) : (joinStates a b).params = a.params := rfl
@[simp] theorem joinStates_storage (a b : State) : (joinStates a b).storage = a.storage := rfl
@[simp] theorem joinStates_wc (a b : State) : (joinStates a b).wc = a.wc := rfl
@[simp] theorem joinStates_rc (a b : State) : (joinStates a b).rc = b.rc := rfl
@[simp] theorem joinStates_ports (a b : State) : (joinStates a b).ports = a.ports := rfl
@[simp] theorem joinStates_env (a b : State) : (joinStates a b).env = a.env := rfl
@[simp] theorem joinStates_draw (a b : State) : (joinStates a b).draw = a.draw := rfl
@[simp] theorem joinStates_out_wr_ack_o (a b : State) : (joinStates a b).out.wr_ack_o = a.out.wr_ack_o := rfl
@[simp] theorem joinStates_out_full_o (a b : State) : (joinStates a b).out.full_o = a.out.full_o := rfl
@[simp] theorem joinStates_out_wptr_o (a b : State) : (joinStates a b).out.wptr_o = a.out.wptr_o := rfl
@[simp] theorem joinStates_out_rd_valid_o (a b : State) : (joinStates a b).out.rd_valid_o = b.out.rd_valid_o := rfl
@[simp] theorem joinStates_out_rd_data_o (a b : State) : (joinStates a b).out.rd_data_o = b.out.rd_data_o := rfl
@[simp] theorem joinStates_out_empty_o (a b : State) : (joinStates a b).out.empty_o = a.out.empty_o := rfl
@[simp] theorem joinStates_out_rptr_o (a b : State) : (joinStates a b).out.rptr_o = a.out.rptr_o := rfl

/-! ## Two states with equal fields are equal -/

theorem State.ext_fields {s t : State} (h1 : s.params = t.params) (h2 : s.storage = t.storage) (h3 : s.wc = t.wc)
    (h4 : s.rc = t.rc) (h5 : s.ports = t.ports) (h6 : s.env = t.env) (h7 : s.out = t.out) (h8 : s.draw = t.draw) :
    s = t := by
  cases s; cases t; simp_all

end Sys2Proof.Machine
end

