-- ==== Sys2Proof/Laws/WellFormed.lean ====
section
/-! SUPPORT. The well-formedness checks as propositions, and which command a cycle presents. -/

namespace Sys2Proof

theorem Params.wf_iff (p : Params) : p.wf = true ↔ 1 ≤ p.S ∧ 1 ≤ p.W := by simp [Params.wf]

theorem Inputs.wf_iff (p : Params) (i : Inputs) :
    i.wf p = true ↔
      i.fill_i < 2 ^ p.W ∧ i.wr_data_i < 2 ^ p.W ∧ i.rptr_view_i < 2 ^ p.AW ∧ i.wptr_view_i < 2 ^ p.AW := by
  simp [Inputs.wf, and_assoc]

theorem Outputs.wf_iff (p : Params) (o : Outputs) :
    o.wf p = true ↔ o.rd_data_o < 2 ^ p.W ∧ o.wptr_o < p.S ∧ o.rptr_o < p.S := by
  simp [Outputs.wf, and_assoc]

namespace Machine

theorem State.Inv.pos {s : State} (h : s.Inv) : 0 < s.params.S := ((Params.wf_iff _).mp h.params).1

/-- In a `NEW` cycle only `NEW` is presented. -/
theorem State.presents_sys {s : State} (hd : decode s.ports.cw = .sys .new) (i : Instr) :
    s.presents i = decide (i = .new) := by
  cases i <;> simp [State.presents, hd, Cycle.has, Cycle.commands]

/-- In a cycle of two commands a write-side command is presented iff it is the write-side command of the word. -/
theorem State.presents_w {s : State} {w r i : Instr} (hd : decode s.ports.cw = .pair w r) (hr : r.format = .r)
    (hi : i.format = .w) : s.presents i = decide (i = w) := by
  cases i <;> cases r <;> simp_all [State.presents, Cycle.has, Cycle.commands, Instr.format]

/-- In a cycle of two commands a read-side command is presented iff it is the read-side command of the word. -/
theorem State.presents_r {s : State} {w r i : Instr} (hd : decode s.ports.cw = .pair w r) (hw : w.format = .w)
    (hi : i.format = .r) : s.presents i = decide (i = r) := by
  cases i <;> cases w <;> simp_all [State.presents, Cycle.has, Cycle.commands, Instr.format]

/-- A cycle of two commands is no `NEW` cycle. -/
theorem State.presents_new_pair {s : State} {w r : Instr} (hd : decode s.ports.cw = .pair w r) (hw : w.format = .w)
    (hr : r.format = .r) : s.presents .new = false := by
  cases w <;> cases r <;> simp_all [State.presents, Cycle.has, Cycle.commands, Instr.format]

end Machine
end Sys2Proof
end

