-- ==== Sys2Proof/Laws/Commands.lean ====
section
/-! SUPPORT. One lemma for each shared operation: everything it can answer. -/

namespace Sys2Proof.Machine

open Sys2Proof

/-- The reset storage is in canonical form. -/
theorem reset_storage_wf : State.reset.storage.wf State.reset.params.S = true := Memory.wf_filled _ _

/-- All a storage write can do. -/
theorem memWrite_cases {s t : State} {a : Nat} {v : Elem} (h : s.memWrite a v = some t) :
    (s.storage.read a).isSome = true ∧ t = s.setStorage (s.storage.put a v) := by
  unfold State.memWrite at h
  split at h
  · next hr => exact ⟨hr, (Option.some.inj h).symm⟩
  · cases h

/-- All a storing write side can answer. -/
theorem storeAndAdvance_cases (s : State) :
    ((s.storage.read s.wc).isSome = true ∧
      storeAndAdvance s =
        .next (((s.setStorage (s.storage.put s.wc s.ports.wr_data_i)).setWc (adv s.params.S s.wc)).setWrAck true)) ∨
    (s.storage.read s.wc = none ∧ storeAndAdvance s = .fault .noSuchSlot) := by
  unfold storeAndAdvance State.memWrite
  cases h : s.storage.read s.wc with
  | none => right; simp
  | some v => left; simp [State.wrData]

/-- All a delivering read side can answer. -/
theorem deliverAndAdvance_cases (s : State) :
    (∃ v, s.storage.read s.rc = some v ∧
      deliverAndAdvance s = .next ((s.setRc (adv s.params.S s.rc)).setRdResult (some v))) ∨
    (s.storage.read s.rc = none ∧ deliverAndAdvance s = .fault .noSuchSlot) := by
  unfold deliverAndAdvance State.memRead
  cases h : s.storage.read s.rc with
  | none => right; simp
  | some v => left; exact ⟨v, rfl, by simp⟩

/-- `i` stores when it is presented in `s` (R66). -/
def State.stores (s : State) (i : Instr) : Bool := i == .writeUnchecked || (i == .write && !s.fullO)

/-- `i` delivers when it is presented in `s` (R66). -/
def State.delivers (s : State) (i : Instr) : Bool := (i == .read || i == .readUnchecked) && !s.emptyO

/-- All a write-side command can answer. -/
theorem exec_write_side (s : State) {i : Instr} (hi : i.format = .w) :
    exec i s = if s.stores i then storeAndAdvance s else storeNothing s := by
  cases i <;> simp_all [Instr.format, exec, execWnop, execWrite, execWriteUnchecked, State.stores]
  split <;> simp_all

/-- All a read-side command can answer. -/
theorem exec_read_side (s : State) {i : Instr} (hi : i.format = .r) :
    exec i s = if s.delivers i then deliverAndAdvance s else deliverNothing s := by
  cases i <;> simp_all [Instr.format, exec, execRnop, execRead, execReadUnchecked, State.delivers]
  all_goals split <;> simp_all

/-- A decoded command word is `NEW` alone, or a write-side and a read-side command. -/
theorem decode_cases (cw : CommandWord) :
    (cw.getLsbD 4 = true ∧ decode cw = .sys .new) ∨
    (cw.getLsbD 4 = false ∧ ∃ w r, decode cw = .pair w r ∧ w.format = .w ∧ r.format = .r) := by
  unfold decode
  cases h : cw.getLsbD 4 with
  | true => left; simp
  | false =>
    right
    refine ⟨rfl, _, _, by simp; exact ⟨rfl, rfl⟩, ?_, ?_⟩
    · unfold decodeW; repeat' split
      all_goals rfl
    · unfold decodeR; repeat' split
      all_goals rfl

end Sys2Proof.Machine
end

