-- ==== Sys2Proof/Laws/PerInstr.lean ====
section
/-! SUPPORT. One statement about each command as syntax, and one lemma for each command. -/

namespace Sys2Proof.Laws.Encoding

/-- The command alone is a well-formed cycle; its word is canonical, decodes to a cycle that has the command, and
selects the command's row of the table (R68, R69). -/
def Statement (i : Instr) : Prop :=
  i.alone.wf = true ∧ canonical (encode i.alone) = encode i.alone ∧ (decode (encode i.alone)).has i = true ∧
    i.selectedBy (encode i.alone) = true

theorem new : Statement .new := by unfold Statement; decide
theorem wnop : Statement .wnop := by unfold Statement; decide
theorem write : Statement .write := by unfold Statement; decide
theorem writeUnchecked : Statement .writeUnchecked := by unfold Statement; decide
theorem rnop : Statement .rnop := by unfold Statement; decide
theorem read : Statement .read := by unfold Statement; decide
theorem readUnchecked : Statement .readUnchecked := by unfold Statement; decide

end Sys2Proof.Laws.Encoding
end

