-- ==== Sys2Proof/Laws/Step.lean ====
section
/-! SUPPORT. One lemma that says everything a step can do, and the steps that are sure to answer a next state. -/

namespace Sys2Proof.Machine

open Sys2Proof

/-- The effect of the write-side command `w` on the storage. -/
def State.storageAfter (s : State) (w : Instr) : Memory :=
  if s.stores w then s.storage.put s.wc s.ports.wr_data_i else s.storage

/-- The effect of the write-side command `w` on the write cursor. -/
def State.wcAfter (s : State) (w : Instr) : Nat := if s.stores w then adv s.params.S s.wc else s.wc

/-- The effect of the read-side command `r` on the read cursor. -/
def State.rcAfter (s : State) (r : Instr) : Nat := if s.delivers r then adv s.params.S s.rc else s.rc

/-- What the read-side command `r` delivers. -/
def State.readResult (s : State) (r : Instr) : Option Elem := if s.delivers r then s.storage.read s.rc else none

/-- The state after a cycle that performs `w` and `r`. -/
def State.afterPair (s : State) (w r : Instr) : State :=
  { params := s.params
    storage := s.storageAfter w
    wc := s.wcAfter w
    rc := s.rcAfter r
    ports := s.nextInputs
    env := s.env.tail
    out :=
      { wr_ack_o := s.stores w, full_o := s.fullO, wptr_o := s.wc, rd_valid_o := s.delivers r,
        rd_data_o := (s.readResult r).getD s.anyData, empty_o := s.emptyO, rptr_o := s.rc }
    draw := s.draw + 1 }

/-- The state after a `NEW` cycle. -/
def State.afterNew (s : State) : State :=
  { params := s.params
    storage := Memory.filled s.params.S s.ports.fill_i
    wc := 0
    rc := 0
    ports := s.nextInputs
    env := s.env.tail
    out :=
      { wr_ack_o := false, full_o := s.fullO, wptr_o := s.wc, rd_valid_o := false,
        rd_data_o := s.anyData, empty_o := s.emptyO, rptr_o := s.rc }
    draw := s.draw + 1 }

/-- A cycle of a write-side and a read-side command that both find their slots. -/
theorem endCycle_pair (s : State) {w r : Instr} (hw : w.format = .w) (hr : r.format = .r)
    (hs : s.stores w = true → (s.storage.read s.wc).isSome = true)
    (hd : s.delivers r = true → (s.storage.read s.rc).isSome = true) :
    endCycle s (bothSides w r s) = .next (s.afterPair w r) := by
  unfold bothSides State.afterPair State.storageAfter State.wcAfter State.rcAfter State.readResult
  rw [exec_write_side s hw, exec_read_side s hr]
  cases h1 : s.stores w <;> cases h2 : s.delivers r <;>
    simp only [h1, h2, Bool.false_eq_true, if_false, if_true, false_imp_iff, true_imp_iff] at hs hd ⊢
  · rfl
  · obtain ⟨v, hv⟩ := Option.isSome_iff_exists.mp hd
    simp only [deliverAndAdvance, State.memRead, hv]; rfl
  · simp only [storeAndAdvance, State.memWrite, hs]; rfl
  · obtain ⟨v, hv⟩ := Option.isSome_iff_exists.mp hd
    simp only [storeAndAdvance, State.memWrite, hs, deliverAndAdvance, State.memRead, hv]; rfl

/-- A `NEW` cycle. -/
theorem endCycle_new (s : State) : endCycle s (exec .new s) = .next s.afterNew := rfl

/-- All a step that answers a next state can do. -/
theorem step_cases {s t : State} (h : step s = .next t) :
    s.params.wf = true ∧
      ((decode s.ports.cw = .sys .new ∧ t = s.afterNew) ∨
        ∃ w r, decode s.ports.cw = .pair w r ∧ w.format = .w ∧ r.format = .r ∧ t = s.afterPair w r ∧
          (s.stores w = true → (s.storage.read s.wc).isSome = true) ∧
          (s.delivers r = true → (s.storage.read s.rc).isSome = true)) := by
  unfold step runCycle at h
  split at h
  · next hp =>
    refine ⟨hp, ?_⟩
    rcases decode_cases s.ports.cw with ⟨-, hd⟩ | ⟨-, w, r, hd, hw, hr⟩
    · rw [hd] at h
      exact Or.inl ⟨hd, (Host.Outcome.next.inj ((endCycle_new s).symm.trans h)).symm⟩
    · refine Or.inr ⟨w, r, hd, hw, hr, ?_⟩
      rw [hd] at h
      simp only [runCommands] at h
      have hs : s.stores w = true → (s.storage.read s.wc).isSome = true := by
        intro h1
        by_contra h2
        rcases storeAndAdvance_cases s with ⟨h3, -⟩ | ⟨-, h3⟩
        · exact h2 h3
        · unfold bothSides at h
          rw [exec_write_side s hw, h1, if_pos rfl, h3] at h
          simp [joinSides, endCycle] at h
      have hd : s.delivers r = true → (s.storage.read s.rc).isSome = true := by
        intro h1
        by_contra h2
        rcases deliverAndAdvance_cases s with ⟨v, h3, -⟩ | ⟨-, h3⟩
        · rw [h3] at h2; exact h2 rfl
        · unfold bothSides at h
          rw [exec_read_side s hr, h1, if_pos rfl, h3] at h
          cases hx : exec w s <;> simp [hx, joinSides, endCycle] at h
      exact ⟨Host.Outcome.next.inj (h.symm.trans (endCycle_pair s hw hr hs hd)), hs, hd⟩
  · cases h

/-- The step of a cycle of a write-side and a read-side command, in a state of an instance. -/
theorem step_pair {s : State} (hi : s.Inv) {w r : Instr} (hd : decode s.ports.cw = .pair w r) (hw : w.format = .w)
    (hr : r.format = .r) : step s = .next (s.afterPair w r) := by
  unfold step runCycle
  rw [if_pos hi.params, hd]
  exact endCycle_pair s hw hr (fun _ => (Memory.read_isSome_of_wf hi.storage _).mpr hi.wc_lt)
    (fun _ => (Memory.read_isSome_of_wf hi.storage _).mpr hi.rc_lt)

/-- The step of a `NEW` cycle, in any state of an existing instance. -/
theorem step_new {s : State} (hp : s.params.wf = true) (hd : decode s.ports.cw = .sys .new) :
    step s = .next s.afterNew := by
  unfold step runCycle
  rw [if_pos hp, hd]; rfl

end Sys2Proof.Machine
end

