-- ==== Sys2Proof/Tests/Slice0.lean ====
section
/-! SUPPORT. The model's own tests: ill-formed terms that the checks refuse; words written out from the encoding
tables of 30_encoding.md; rows of 95_test_vectors.md; and, for each obligation with hypotheses, an input that meets
them. -/

namespace Sys2Proof.Tests

open Sys2Proof Sys2Proof.Machine

/-! ## Ill-formed terms are refused -/

theorem test_sys_holds_new_only : (Cycle.sys .write).wf = false := by decide
theorem test_pair_left_is_write_side : (Cycle.pair .read .rnop).wf = false := by decide
theorem test_pair_right_is_read_side : (Cycle.pair .write .wnop).wf = false := by decide
theorem test_no_slots : (Params.mk 0 8 .direct).wf = false := by decide
theorem test_no_bits : (Params.mk 4 0 .direct).wf = false := by decide

/-- An instance of the spec's programs: `S = 4`, `W = 8`. -/
def p4 : Params := ⟨4, 8, .direct⟩

theorem test_fill_too_wide : (Inputs.mk 0 256 0 0 0).wf p4 = false := by decide
theorem test_wr_data_too_wide : (Inputs.mk 0 0 256 0 0).wf p4 = false := by decide
theorem test_rptr_view_too_wide : (Inputs.mk 0 0 0 4 0).wf p4 = false := by decide
theorem test_wptr_view_too_wide : (Inputs.mk 0 0 0 0 4).wf p4 = false := by decide
theorem test_rd_data_too_wide : (Outputs.mk false false 0 false 256 false 0).wf p4 = false := by decide
theorem test_wptr_no_slot : (Outputs.mk false false 4 false 0 false 0).wf p4 = false := by decide
theorem test_rptr_no_slot : (Outputs.mk false false 0 false 0 false 4).wf p4 = false := by decide
theorem test_storage_of_too_few_slots : Memory.wf 4 [(0, 1), (1, 1), (2, 1)] = false := by decide
theorem test_storage_out_of_order : Memory.wf 2 [(1, 5), (0, 5)] = false := by decide
theorem test_widest_ports : (Inputs.mk 31 255 255 3 3).wf p4 = true := by decide

/-! ## Words written out from the tables of R62, R63, R64 and R68 -/

theorem test_decode_new : decode 0b10000#5 = .sys .new := by decide
theorem test_decode_new_ignores_the_rest : decode 0b11111#5 = .sys .new := by decide
theorem test_decode_write : decode 0b00001#5 = .pair .write .rnop := by decide
theorem test_decode_write_unchecked : decode 0b00011#5 = .pair .writeUnchecked .rnop := by decide
theorem test_decode_read : decode 0b00100#5 = .pair .wnop .read := by decide
theorem test_decode_read_unchecked : decode 0b01100#5 = .pair .wnop .readUnchecked := by decide
theorem test_decode_both : decode 0b00111#5 = .pair .writeUnchecked .read := by decide
theorem test_decode_idle : decode 0b00000#5 = .pair .wnop .rnop := by decide
theorem test_decode_mode_bits_alone : decode 0b01010#5 = .pair .wnop .rnop := by decide
/-- `NOP` (R72). -/
theorem test_encode_nop : encode (.pair .wnop .rnop) = 0x00#5 := by decide
/-- The two examples of R71. -/
theorem test_encode_write_and_read : encode (.pair .write .read) = 0x05#5 := by decide
theorem test_encode_read_unchecked : encode (.pair .wnop .readUnchecked) = 0x0C#5 := by decide
theorem test_bytes_high_bit_refused : decodeBytes [0x20#8] = .error .noSuchInputBit := by rfl
theorem test_bytes_none_refused : decodeBytes [] = .error .noBytes := by rfl
theorem test_table_words :
    [0x10, 0x00, 0x01, 0x03, 0x04, 0x0C].map (decodeTableWord 8) =
      [some .new, some .wnop, some .write, some .writeUnchecked, some .read, some .readUnchecked] := by decide
theorem test_table_word_of_five_bits : decodeTableWord 5 0x01 = some .write := by decide

/-! ## One cycle -/

/-- A state with given parameters, cursors, slots and port values; nothing scripted. -/
def mk (p : Params) (wc rc : Nat) (slots : List Elem) (i : Inputs) (env : List Inputs := []) : State :=
  { params := p
    storage := (List.range slots.length).zip slots
    wc := wc
    rc := rc
    ports := i
    env := env
    out := ⟨false, false, 0, false, 0, false, 0⟩
    draw := 0 }

/-- Port values with a command word and data for both data ports. -/
def put (cw : CommandWord) (wr : Elem := 0) (fill : Elem := 0) : Inputs := ⟨cw, fill, wr, 0, 0⟩

/-- Port values with the two views. -/
def view (cw : CommandWord) (wr : Elem) (rv wv : Nat) : Inputs := ⟨cw, 0, wr, rv, wv⟩

/-- What a row of a vector table lists: `full`, `empty`, `ack`, the data if `valid`, then `wc'`, `rc'`, `storage'`. -/
def row : Result → Option ((Bool × Bool × Bool × Option Elem) × Nat × Nat × List Elem)
  | .next t =>
    some ((t.out.full_o, t.out.empty_o, t.out.wr_ack_o, if t.out.rd_valid_o then some t.out.rd_data_o else none),
      t.wc, t.rc, t.storage.map Prod.snd)
  | .fault _ => none
  | .refused _ => none

/-- The instance of the vectors, with external views. -/
def x4 : Params := ⟨4, 8, .external⟩

def p1 : Params := ⟨1, 8, .direct⟩
def p2 : Params := ⟨2, 8, .direct⟩

/-- N2. -/
theorem test_new_overrides : row (step (mk p4 2 1 [0x11, 0x22, 0x33, 0x44] (put 0x1F 0x99 0x00))) =
    some ((false, false, false, none), 0, 0, [0, 0, 0, 0]) := by decide
/-- N5. -/
theorem test_new_one_slot : row (step (mk p1 0 0 [0x77] (put 0x10 0 0x07))) =
    some ((true, true, false, none), 0, 0, [0x07]) := by decide
/-- W2. -/
theorem test_write_wraps : row (step (mk p4 3 1 [0x11, 0x22, 0x33, 0x44] (put 0x01 0x5A))) =
    some ((false, false, true, none), 0, 1, [0x11, 0x22, 0x33, 0x5A]) := by decide
/-- W4. -/
theorem test_write_full : row (step (mk p4 1 2 [0x11, 0x22, 0x33, 0x44] (put 0x01 0x5A))) =
    some ((true, false, false, none), 1, 2, [0x11, 0x22, 0x33, 0x44]) := by decide
/-- R2. -/
theorem test_read_wraps : row (step (mk p4 1 3 [0x11, 0x22, 0x33, 0x77] (put 0x04))) =
    some ((false, false, false, some 0x77), 1, 0, [0x11, 0x22, 0x33, 0x77]) := by decide
/-- R3. -/
theorem test_read_empty : row (step (mk p4 2 2 [0x11, 0x22, 0x33, 0x44] (put 0x04))) =
    some ((false, true, false, none), 2, 2, [0x11, 0x22, 0x33, 0x44]) := by decide
/-- WU2. -/
theorem test_write_unchecked_overrun : row (step (mk p4 3 0 [0xB0, 0xB1, 0xB2, 0x00] (put 0x03 0xB3))) =
    some ((true, false, true, none), 0, 0, [0xB0, 0xB1, 0xB2, 0xB3]) := by decide
/-- WU4. -/
theorem test_write_unchecked_with_read : row (step (mk p4 3 0 [0xB0, 0xB1, 0xB2, 0x00] (put 0x0F 0xB3))) =
    some ((true, false, true, some 0xB0), 0, 1, [0xB0, 0xB1, 0xB2, 0xB3]) := by decide
/-- RU1. -/
theorem test_read_unchecked : row (step (mk p4 1 0 [0xB4, 0xB1, 0xB2, 0xB3] (put 0x0C))) =
    some ((false, false, false, some 0xB4), 1, 1, [0xB4, 0xB1, 0xB2, 0xB3]) := by decide
/-- RU2. -/
theorem test_read_unchecked_empty : row (step (mk p4 1 1 [0xB4, 0xB1, 0xB2, 0xB3] (put 0x0C))) =
    some ((false, true, false, none), 1, 1, [0xB4, 0xB1, 0xB2, 0xB3]) := by decide
/-- 2.8: `cw = 0x0A`. -/
theorem test_idle : row (step (mk p4 3 0 [0x11, 0x22, 0x33, 0x44] (put 0x0A 0x99))) =
    some ((true, false, false, none), 3, 0, [0x11, 0x22, 0x33, 0x44]) := by decide
/-- B1. -/
theorem test_both_on_empty : row (step (mk p4 2 2 [0x11, 0x22, 0x33, 0x44] (put 0x05 0x99))) =
    some ((false, true, true, none), 3, 2, [0x11, 0x22, 0x99, 0x44]) := by decide
/-- B2. -/
theorem test_both_on_full : row (step (mk p4 0 1 [0x11, 0x22, 0x33, 0x44] (put 0x05 0x99))) =
    some ((true, false, false, some 0x22), 0, 2, [0x11, 0x22, 0x33, 0x44]) := by decide
/-- X1. -/
theorem test_stale_read_cursor : row (step (mk x4 3 2 [0x11, 0x22, 0x33, 0x44] (view 0x01 0x5A 0 3))) =
    some ((true, false, false, none), 3, 2, [0x11, 0x22, 0x33, 0x44]) := by decide
/-- X3. -/
theorem test_stale_write_cursor : row (step (mk x4 2 0 [0x11, 0x22, 0x33, 0x44] (view 0x04 0 0 0))) =
    some ((false, true, false, none), 2, 0, [0x11, 0x22, 0x33, 0x44]) := by decide
/-- R9, R112: the widths for `S = 1, 2, 3, 4, 10, 25`. -/
theorem test_cursor_widths : [1, 2, 3, 4, 10, 25].map (fun S => (Params.mk S 8 .direct).AW) = [1, 1, 2, 2, 4, 5] := by
  decide
/-- 2.1: the wraps of `adv`. -/
theorem test_adv : [(10, 8), (10, 9), (1, 0), (2, 1), (25, 24)].map (fun x => adv x.1 x.2) = [9, 0, 0, 0, 0] := by decide
/-- `withFetchWord`: the word is run by the very next step from reset (log entry 3). -/
theorem test_fetch_write_from_reset :
    (match step (State.reset.withFetchWord 8 0x01) with
      | .next t => some (t.out.wr_ack_o, t.wc)
      | .fault _ => none
      | .refused _ => none) = some (true, 1) := by decide
/-- No instance without slots. -/
theorem test_no_instance : step (mk ⟨0, 8, .direct⟩ 0 0 [] (put 0x10)) = .refused .noInstance := by rfl

/-! ## Inputs that meet the hypotheses of the obligations -/

/-- A check that gives the invariant. -/
def invCheck (s : State) : Bool :=
  s.params.wf && s.storage.wf s.params.S && s.storage.all (fun c => decide (c.2 < 2 ^ s.params.W)) &&
    decide (s.wc < s.params.S) && decide (s.rc < s.params.S) && s.ports.wf s.params &&
    s.env.all (fun i => i.wf s.params) && s.out.wf s.params

theorem inv_of_check {s : State} (h : invCheck s = true) : s.Inv := by
  simp only [invCheck, Bool.and_eq_true, List.all_eq_true, decide_eq_true_eq] at h
  obtain ⟨⟨⟨⟨⟨⟨⟨h1, h2⟩, h3⟩, h4⟩, h5⟩, h6⟩, h7⟩, h8⟩ := h
  exact ⟨h1, h2, h3, h4, h5, h6, h7, h8⟩

/-- Answers a next state. -/
def goesOn : Result → Bool
  | .next _ => true
  | .fault _ => false
  | .refused _ => false

theorem next_of_goesOn {o : Result} (h : goesOn o = true) : ∃ t, o = .next t := by
  cases o with
  | next t => exact ⟨t, rfl⟩
  | fault _ => cases h
  | refused _ => cases h

/-- Empty, full and in-between states of the instance of the vectors. -/
def sEmpty (cw : CommandWord) : State := mk p4 2 2 [0x11, 0x22, 0x33, 0x44] (put cw 0x99 0x5A)
def sFull (cw : CommandWord) : State := mk p4 0 1 [0x11, 0x22, 0x33, 0x44] (put cw 0x99 0x5A)
def sMid (cw : CommandWord) : State := mk p4 3 1 [0x11, 0x22, 0x33, 0x44] (put cw 0x99 0x5A)
/-- The read cursor at the last slot. -/
def sWrapRead (cw : CommandWord) : State := mk p4 1 3 [0x11, 0x22, 0x33, 0x44] (put cw 0x99 0x5A)
def sOne (cw : CommandWord) : State := mk p1 0 0 [0x55] (put cw 0x99 0x5A)
def sTwoEmpty (cw : CommandWord) : State := mk p2 1 1 [0x55, 0x56] (put cw 0x99 0x5A)
def sTwoFull (cw : CommandWord) : State := mk p2 1 0 [0x55, 0x56] (put cw 0x99 0x5A)
def sView (cw : CommandWord) (rv wv : Nat) : State := mk x4 3 2 [0x11, 0x22, 0x33, 0x44] (view cw 0x5A rv wv)
/-- A state as the spec knows none after the first `NEW`: both cursors name no slot. -/
def sOut (cw : CommandWord) : State := mk p4 4 6 [0x11, 0x22, 0x33, 0x44] (put cw 0x99 0x5A)

theorem witness_AdvanceIsTheBranch : (9 < 10 ∧ 9 + 1 = 10) ∧ (8 < 10 ∧ 8 + 1 ≠ 10) ∧ (0 < 1 ∧ 0 + 1 = 1) := by decide

theorem witness_AdvanceIsModular : 9 < 10 ∧ (0 < 10 ∧ 0 ≠ 9 ∧ adv 10 9 = adv 10 9) ∧ 0 < 1 := by decide

theorem witness_CursorWidthIsLeast :
    p1.wf = true ∧ (p4.wf = true ∧ 1 ≤ 2 ∧ p4.S ≤ 2 ^ 2) ∧
    ((Params.mk 5 1 .direct).wf = true ∧ 1 ≤ 3 ∧ (Params.mk 5 1 .direct).S ≤ 2 ^ 3) := by decide

theorem witness_DecodeFollowsTheTable : (0x10#5).getLsbD 4 = true ∧ (0x0F#5).getLsbD 4 = false := by decide

theorem witness_DecodeEncodeAgree :
    (Cycle.sys .new).wf = true ∧ (Cycle.pair .writeUnchecked .readUnchecked).wf = true := by decide

theorem witness_NonCanonicalWordsHaveNoEffectOfTheirOwn :
    (0x1F#5).getLsbD 4 = true ∧ ((0x02#5).getLsbD 4 = false ∧ (0x02#5).getLsbD 0 = false) ∧
    ((0x08#5).getLsbD 4 = false ∧ (0x08#5).getLsbD 2 = false) ∧ (Cycle.pair .wnop .rnop).wf = true ∧
    (sFull 0x0A).Inv :=
  ⟨by decide, by decide, by decide, by decide, inv_of_check (by decide)⟩

theorem witness_NewConstructsTheInstance :
    (sMid 0x1F).params.wf = true ∧ (sMid 0x1F).ports.cw.getLsbD 4 = true := by decide

theorem witness_WriteStoresUnlessFull :
    adv (sFull 1).params.S (sFull 1).wc = (sFull 1).rv ∧
    ((sMid 1).Inv ∧ adv (sMid 1).params.S (sMid 1).wc ≠ (sMid 1).rv ∧ (sMid 1).params.viewMode = .direct) ∧
    ((sOne 1).Inv ∧ (sOne 1).params.S = 1 ∧ (sOne 1).rv < (sOne 1).params.S) ∧
    ((sTwoEmpty 1).Inv ∧ (sTwoEmpty 1).params.S = 2 ∧ (sTwoEmpty 1).params.viewMode = .direct ∧
      adv (sTwoEmpty 1).params.S (sTwoEmpty 1).wc ≠ (sTwoEmpty 1).rv) ∧
    ((sTwoFull 1).Inv ∧ (sTwoFull 1).isEmpty = false) :=
  ⟨by decide, ⟨inv_of_check (by decide), by decide, by decide⟩, ⟨inv_of_check (by decide), by decide, by decide⟩,
    ⟨inv_of_check (by decide), by decide, by decide, by decide⟩, ⟨inv_of_check (by decide), by decide⟩⟩

theorem witness_ReadDeliversUnlessEmpty :
    (sEmpty 4).rc = (sEmpty 4).wv ∧
    ((sWrapRead 4).Inv ∧ (sWrapRead 4).rc ≠ (sWrapRead 4).wv ∧ (sWrapRead 4).params.viewMode = .direct) ∧
    ((sOne 4).Inv ∧ (sOne 4).params.S = 1 ∧ (sOne 4).wv < (sOne 4).params.S) :=
  ⟨by decide, ⟨inv_of_check (by decide), by decide, by decide⟩, inv_of_check (by decide), by decide, by decide⟩

theorem witness_WriteUncheckedAlwaysStores :
    ((sFull 3).Inv ∧ (sFull 3).fullO = true) ∧ (sOne 3).Inv ∧ (sOne 3).params.S = 1 :=
  ⟨⟨inv_of_check (by decide), by decide⟩, inv_of_check (by decide), by decide⟩

theorem witness_ReadUncheckedIsRead :
    (sEmpty 0x0C).rc = (sEmpty 0x0C).wv ∧ (sWrapRead 0x0C).Inv ∧ (sWrapRead 0x0C).rc ≠ (sWrapRead 0x0C).wv :=
  ⟨by decide, inv_of_check (by decide), by decide⟩

theorem witness_IdleCommandsChangeNothing :
    (sFull 0x0A).params.wf = true ∧ (sFull 0x0A).presents .wnop = true ∧ (sFull 0x0A).presents .rnop = true := by
  decide

theorem witness_UncheckedWriteEqualsWriteUnlessFull :
    (sMid 3).fullO = false ∧ (sFull 3).Inv ∧ (sFull 3).fullO = true :=
  ⟨by decide, inv_of_check (by decide), by decide⟩

/-- A write-side command of each kind, one that stores nothing among them. -/
theorem witness_WriteSideFrame :
    (Instr.format .write = .w ∧ ∃ t, exec .write (sMid 1) = .next t) ∧
    (Instr.format .writeUnchecked = .w ∧ ∃ t, exec .writeUnchecked (sFull 3) = .next t) ∧
    (Instr.format .write = .w ∧ ∃ t, exec .write (sFull 1) = .next t ∧ t.out.wr_ack_o = false) ∧
    (Instr.format .wnop = .w ∧ ∃ t, exec .wnop (sFull 0) = .next t ∧ t.out.wr_ack_o = false) :=
  ⟨⟨rfl, _, rfl⟩, ⟨rfl, _, rfl⟩, ⟨rfl, _, rfl, rfl⟩, rfl, _, rfl, rfl⟩

theorem witness_ReadSideFrame :
    (Instr.format .read = .r ∧ ∃ t, exec .read (sWrapRead 4) = .next t) ∧
    (Instr.format .readUnchecked = .r ∧ ∃ t, exec .readUnchecked (sFull 0x0C) = .next t) ∧
    (Instr.format .read = .r ∧ ∃ t, exec .read (sEmpty 4) = .next t ∧ t.out.rd_valid_o = false) ∧
    (Instr.format .rnop = .r ∧ ∃ t, exec .rnop (sFull 0) = .next t ∧ t.out.rd_valid_o = false) :=
  ⟨⟨rfl, _, rfl⟩, ⟨rfl, _, rfl⟩, ⟨rfl, _, rfl, rfl⟩, rfl, _, rfl, rfl⟩

theorem witness_CursorsMoveByTheirOwnSide :
    ((∃ t, step (sMid 0x10) = .next t) ∧ (sMid 0x10).presents .new = true) ∧
    ((∃ t, step (sMid 4) = .next t) ∧ (sMid 4).presents .new = false ∧ (sMid 4).presents .wnop = true) ∧
    ((∃ t, step (sMid 1) = .next t) ∧ (sMid 1).presents .new = false ∧ (sMid 1).presents .rnop = true) :=
  ⟨⟨⟨_, rfl⟩, by decide⟩, ⟨⟨_, rfl⟩, by decide, by decide⟩, ⟨_, rfl⟩, by decide, by decide⟩

theorem witness_VariantLeavesNoTrace : (sMid 5).ports.cw.getLsbD 4 = false ∧ (sMid 5).fullO = false := by decide

theorem witness_StepRunsTheDecodedCommands :
    ((sMid 0x10).params.wf = true ∧ decode (sMid 0x10).ports.cw = .sys .new ∧ ∃ t, exec .new (sMid 0x10) = .next t) ∧
    ((sMid 5).params.wf = true ∧ decode (sMid 5).ports.cw = .pair .write .read ∧
      (∃ a, exec .write (sMid 5) = .next a) ∧ ∃ b, exec .read (sMid 5) = .next b) :=
  ⟨⟨by decide, by decide, _, rfl⟩, by decide, by decide, ⟨_, rfl⟩, _, rfl⟩

theorem witness_CycleOfOneCommandIsTheCommand :
    (decode (sMid 1).ports.cw = Instr.alone .write ∧ ∃ t, exec .write (sMid 1) = .next t) ∧
    (decode (sMid 4).ports.cw = Instr.alone .read ∧ ∃ t, exec .read (sMid 4) = .next t) ∧
    (decode (sMid 0x10).ports.cw = Instr.alone .new ∧ ∃ t, exec .new (sMid 0x10) = .next t) ∧
    (sMid 1).params.wf = true :=
  ⟨⟨by decide, _, rfl⟩, ⟨by decide, _, rfl⟩, ⟨by decide, _, rfl⟩, by decide⟩

theorem witness_StepIsThePseudocode : (sFull 0x1F).Inv ∧ (sMid 5).Inv ∧ (sView 1 0 3).Inv :=
  ⟨inv_of_check (by decide), inv_of_check (by decide), inv_of_check (by decide)⟩

theorem witness_ResultOutputs : ∃ t, step (sMid 5) = .next t ∧ t.out.wr_ack_o = true ∧ t.out.rd_valid_o = true :=
  ⟨_, rfl, by decide, by decide⟩

theorem witness_StatusOutputs :
    ∃ t, step (sFull 5) = .next t ∧ (sFull 5).params.viewMode = .direct ∧ (sFull 5).presents .write = true ∧
      (sFull 5).presentsRead = true :=
  ⟨_, rfl, by decide, by decide, by decide⟩

theorem witness_ViewsOfTheOtherCursor :
    (sMid 0).params.viewMode = .direct ∧ (sView 0 0 3).params.viewMode = .external := by decide

theorem witness_CycleIsASequentialOrder :
    ((sEmpty 5).Inv ∧ (sEmpty 5).params.viewMode = .direct ∧ (sEmpty 5).isEmpty = true) ∧
    ((sFull 5).Inv ∧ (sFull 5).params.viewMode = .direct ∧ (sFull 5).isFull = true) ∧
    ((sMid 5).Inv ∧ (sMid 5).params.viewMode = .direct ∧ (sMid 5).isEmpty = false ∧ (sMid 5).isFull = false) ∧
    ((sOne 5).Inv ∧ (sOne 5).params.viewMode = .direct ∧ (sOne 5).params.S = 1) ∧
    Instr.format .write = .w ∧ Instr.format .writeUnchecked = .w ∧ Instr.format .read = .r :=
  ⟨⟨inv_of_check (by decide), by decide, by decide⟩, ⟨inv_of_check (by decide), by decide, by decide⟩,
    ⟨inv_of_check (by decide), by decide, by decide, by decide⟩, ⟨inv_of_check (by decide), by decide, by decide⟩,
    rfl, rfl, rfl⟩

theorem witness_SidesDoNotInteract :
    (sMid 1).ports.cw.getLsbD 4 = false ∧ (0x0D#5).getLsbD 4 = false ∧ (∃ t, step (sMid 1) = .next t) ∧
    (∃ t, step ((sMid 1).setCommand 0x0D) = .next t) ∧
    (0x0D#5).extractLsb' 0 2 = (sMid 1).ports.cw.extractLsb' 0 2 ∧
    (0x02#5).getLsbD 4 = false ∧ (∃ t, step ((sMid 1).setCommand 0x02) = .next t) ∧
    (0x02#5).extractLsb' 2 2 = (sMid 1).ports.cw.extractLsb' 2 2 :=
  ⟨by decide, by decide, ⟨_, rfl⟩, ⟨_, rfl⟩, by decide, by decide, ⟨_, rfl⟩, by decide⟩

theorem witness_UnusedOperandPortsAreIgnored :
    (sMid 5).presents .new = false ∧
    ((sFull 1).presents .writeUnchecked = false ∧ (sFull 1).presents .write = true ∧ (sFull 1).fullO = true) ∧
    (sMid 5).params.viewMode = .direct := by decide

theorem witness_NewOverridesTheOtherPorts :
    (sMid 0x10).params.wf = true ∧ (sMid 0x10).ports.cw.getLsbD 4 = true ∧ (put 0x1F 0x77 0x5A).cw.getLsbD 4 = true ∧
    (put 0x1F 0x77 0x5A).fill_i = (sMid 0x10).ports.fill_i ∧ (sMid 0x10).params.viewMode = .direct := by decide

theorem witness_OccupancyLaw :
    ((sMid 5).Inv ∧ (∃ t, step (sMid 5) = .next t) ∧ (sMid 5).presents .new = false ∧
      (sMid 5).params.viewMode = .direct ∧ (sMid 5).overrun = false) ∧
    ((sFull 3).Inv ∧ (∃ t, step (sFull 3) = .next t) ∧ (sFull 3).presents .new = false ∧ (sFull 3).overrun = true) :=
  ⟨⟨inv_of_check (by decide), ⟨_, rfl⟩, by decide, by decide, by decide⟩, inv_of_check (by decide), ⟨_, rfl⟩,
    by decide, by decide⟩

theorem witness_StoreAndPublishTogether :
    ∃ t, step (sMid 1) = .next t ∧ (sMid 1).presents .new = false ∧ t.out.wr_ack_o = true ∧ t.wc ≠ (sMid 1).wc :=
  ⟨_, rfl, by decide, by decide, by decide⟩

theorem witness_EmptyAndFullConditions : (sMid 0).Inv ∧ (sMid 0).params.viewMode = .direct :=
  ⟨inv_of_check (by decide), by decide⟩

theorem witness_OccupancyDecidesTheConditions : ((sFull 0).Inv ∧ 2 < (sFull 0).occ) ∧ (sOne 0).Inv :=
  ⟨⟨inv_of_check (by decide), by decide⟩, inv_of_check (by decide)⟩

theorem witness_StepKeepsTheInvariant :
    ((sFull 7).Inv ∧ ∃ t, step (sFull 7) = .next t) ∧ (sMid 0x10).Inv ∧ ∃ t, step (sMid 0x10) = .next t :=
  ⟨⟨inv_of_check (by decide), _, rfl⟩, inv_of_check (by decide), _, rfl⟩

/-- A view outside the slots, which breaks the duty of R49, among them. -/
theorem witness_CursorsStayInRange :
    ((∃ t, step (sMid 5) = .next t) ∧ (sMid 5).wc < (sMid 5).params.S ∧ (sMid 5).rc < (sMid 5).params.S) ∧
    (∃ t, step (sView 5 7 9) = .next t) ∧ (∃ t, step (sOut 0x10) = .next t) ∧ (sOut 0x10).presents .new = true :=
  ⟨⟨⟨_, rfl⟩, by decide, by decide⟩, ⟨_, rfl⟩, ⟨_, rfl⟩, by decide⟩

theorem witness_NoRunStops : (sFull 7).Inv ∧ (sView 5 0 3).Inv :=
  ⟨inv_of_check (by decide), inv_of_check (by decide)⟩

theorem witness_StopsOnlyOutsideTheInstance :
    exec .write (sOut 1) = .fault .noSuchSlot ∧ exec .writeUnchecked (sOut 3) = .fault .noSuchSlot ∧
    exec .read (sOut 4) = .fault .noSuchSlot ∧ exec .readUnchecked (sOut 0x0C) = .fault .noSuchSlot ∧
    (mk ⟨4, 0, .direct⟩ 0 0 [0, 0, 0, 0] (put 1)).params.wf = false :=
  ⟨rfl, rfl, rfl, rfl, by decide⟩

theorem witness_ParametersNeverChange :
    (∃ t, step (mk p4 0 0 [0, 0, 0, 0] (put 1 7) [put 4]) = .next t) ∧
    (mk p4 0 0 [0, 0, 0, 0] (put 1 7) [put 4]).env = put 4 :: [] :=
  ⟨⟨_, rfl⟩, rfl⟩

theorem witness_OverrunLosesAWholeLap :
    (sFull 3).Inv ∧ (∃ t, step (sFull 3) = .next t) ∧ (sFull 3).overrun = true :=
  ⟨inv_of_check (by decide), ⟨_, rfl⟩, by decide⟩

theorem witness_EveryCursorPairIsReachable :
    (mk p4 0 0 [0, 0, 0, 0] (put 0)).Inv ∧ p4.viewMode = .direct ∧ 3 < p4.S ∧ 2 < p4.S :=
  ⟨inv_of_check (by decide), by decide, by decide, by decide⟩

theorem witness_OneSlotInstance :
    ((sOne 3).Inv ∧ (sOne 3).params.viewMode = .direct ∧ (sOne 3).params.S = 1 ∧ (∃ t, step (sOne 3) = .next t) ∧
      (sOne 3).presents .writeUnchecked = true) ∧
    ((sOne 0x10).Inv ∧ (∃ t, step (sOne 0x10) = .next t) ∧ (sOne 0x10).presents .new = true) :=
  ⟨⟨inv_of_check (by decide), by decide, by decide, ⟨_, rfl⟩, by decide⟩, inv_of_check (by decide), ⟨_, rfl⟩,
    by decide⟩

theorem witness_NegativeOutcomesChangeNothing :
    (sOne 5).Inv ∧ (∃ t, step (sOne 5) = .next t ∧ t.out.wr_ack_o = false ∧ t.out.rd_valid_o = false) ∧
    (sOne 5).params.viewMode = .direct ∧ (sOne 5).presents .write = true ∧ (sOne 5).presentsRead = true :=
  ⟨inv_of_check (by decide), ⟨_, rfl, by decide, by decide⟩, by decide, by decide, by decide⟩

/-! ## Runs that meet the hypotheses of the obligations about runs -/

/-- The run from a state: the states of its successive cycles. -/
def runOf (s : State) : Nat → State
  | 0 => s
  | t + 1 =>
    match step (runOf s t) with
    | .next u => u
    | .fault _ => runOf s t
    | .refused _ => runOf s t

theorem run_of_goesOn {s : State} {n : Nat} (h : ∀ t, t < n → goesOn (step (runOf s t)) = true) : Run (runOf s) n := by
  intro t ht
  have := h t ht
  rw [runOf]
  cases hs : step (runOf s t) with
  | next u => rfl
  | fault _ => rw [hs] at this; cases this
  | refused _ => rw [hs] at this; cases this

/-- Two slots, just constructed: a store, then a delivery. -/
def rRound : Nat → State := runOf (mk p2 0 0 [0, 0] (put 1 0xA1) [put 4, put 0])
/-- Two slots, just constructed: a store, then a rejected one. -/
def rBurst : Nat → State := runOf (mk p2 0 0 [0, 0] (put 1 0xA1) [put 1 0xA2, put 0])
/-- Two slots, just constructed: three unchecked stores, then a delivery. -/
def rLap : Nat → State := runOf (mk p2 0 0 [0, 0] (put 3 0xA1) [put 3 0xA2, put 3 0xA3, put 0x0C, put 0])
/-- Four slots, neither empty nor full: an idle cycle, then a delivery. -/
def rSeen : Nat → State := runOf (mk p4 3 1 [0x11, 0x22, 0x33, 0x44] (put 0) [put 4, put 0])
/-- Four slots, full: a delivery, then a store in an idle cycle of the read side. -/
def rSlot : Nat → State := runOf (mk p4 0 1 [0x11, 0x22, 0x33, 0x44] (put 4) [put 1 0x99, put 0])
/-- P5, from its cycle 1: the views show the cursors of the cycle before. -/
def rViews : Nat → State :=
  runOf (mk x4 0 0 [0, 0, 0, 0] (view 5 0x50 0 0)
    [view 5 0x51 0 0, view 5 0x52 0 1, view 5 0x53 0 2, view 5 0x53 1 3, view 4 0 2 3])

/-- Two slots, external views one cycle old: a store fills the buffer. -/
def rFill : Nat → State := runOf (mk ⟨2, 8, .external⟩ 0 0 [0, 0] (view 1 0x50 0 0) [view 0 0 0 0])
/-- Four slots, external views one cycle old: a store, then idle cycles. -/
def rHold : Nat → State := runOf (mk x4 0 0 [0, 0, 0, 0] (view 1 0x50 0 0) [view 0 0 0 0, view 0 0 0 1, view 0 0 0 1])

/-- The cycle whose cursors the views of P5 show. -/
def before (t : Nat) : Nat := t - 1

theorem rRound_runs : Run rRound 2 := run_of_goesOn (by decide)
theorem rRound_inv : (rRound 0).Inv := inv_of_check (by decide)

theorem rViews_runs : Run rViews 5 := run_of_goesOn (by decide)
theorem rViews_inv : (rViews 0).Inv := inv_of_check (by decide)
theorem rViews_checked : NoNew rViews 5 ∧ CheckedOnly rViews 5 := by unfold NoNew CheckedOnly; decide
theorem rViews_duty : ViewDuty rViews 5 before before where
  rptr := by decide
  wptr := by decide
  forward := by decide

theorem witness_CursorsCountTransfers :
    Run rRound 2 ∧ (rRound 0).Inv ∧ NoNew rRound 2 ∧ (rRound 0).wc = 0 ∧ (rRound 0).rc = 0 ∧
    (accepted rRound 2).length = 1 * ((rRound 0).params.S - 1) ∧
    (delivered rRound 2).length = 1 * ((rRound 0).params.S - 1) :=
  ⟨rRound_runs, rRound_inv, by unfold NoNew; decide, by decide, by decide, by decide, by decide⟩

theorem witness_FifoOrder :
    Run rRound 2 ∧ (rRound 0).Inv ∧ (rRound 0).params.viewMode = .direct ∧ NoNew rRound 2 ∧ NoOverrun rRound 2 ∧
    (rRound 0).isEmpty = true :=
  ⟨rRound_runs, rRound_inv, by decide, by unfold NoNew; decide, by unfold NoOverrun; decide, by decide⟩

/-- The second run is full in its cycle 1, the first is empty in its cycle 0 and delivers in its cycle 2. -/
theorem witness_StaleViewsStayBehind :
    (Run rViews 5 ∧ (rViews 0).Inv ∧ (rViews 0).params.viewMode = .external ∧ (rViews 0).wc = 0 ∧
      (rViews 0).rc = 0 ∧ NoNew rViews 5 ∧ CheckedOnly rViews 5 ∧ ViewDuty rViews 5 before before ∧ 5 ≤ 5 ∧
      (rViews 0).isEmpty = true ∧ 2 < 5 ∧ gave rViews 2 = true) ∧
    (Run rFill 1 ∧ (rFill 0).Inv ∧ (rFill 0).params.viewMode = .external ∧ (rFill 0).wc = 0 ∧ (rFill 0).rc = 0 ∧
      NoNew rFill 1 ∧ CheckedOnly rFill 1 ∧ ViewDuty rFill 1 before before ∧ 1 ≤ 1 ∧ (rFill 1).isFull = true) :=
  ⟨⟨rViews_runs, rViews_inv, by decide, by decide, by decide, rViews_checked.1, rViews_checked.2, rViews_duty,
      by decide, by decide, by decide, by decide⟩,
    run_of_goesOn (by decide), inv_of_check (by decide), by decide, by decide, by decide, by unfold NoNew; decide,
    by unfold CheckedOnly; decide, ⟨by decide, by decide, by decide⟩, by decide, by decide⟩

theorem witness_FifoOrderWithStaleViews :
    Run rViews 5 ∧ (rViews 0).Inv ∧ (rViews 0).params.viewMode = .external ∧ (rViews 0).wc = 0 ∧ (rViews 0).rc = 0 ∧
    NoNew rViews 5 ∧ CheckedOnly rViews 5 ∧ ViewDuty rViews 5 before before ∧ (delivered rViews 5).length = 3 :=
  ⟨rViews_runs, rViews_inv, by decide, by decide, by decide, rViews_checked.1, rViews_checked.2, rViews_duty,
    by decide⟩

/-- The accepted `WRITE` and the rejected one. -/
theorem witness_CapacityIsOneLessThanTheSlots :
    Run rBurst 2 ∧ (rBurst 0).Inv ∧ (rBurst 0).params.viewMode = .direct ∧ (rBurst 0).isEmpty = true ∧
    (∀ t, t < 2 → (rBurst t).presents .write = true ∨ (rBurst t).presents .wnop = true) ∧
    (∀ t, t < 2 → gave rBurst t = false) ∧ (0 < 2 ∧ (rBurst 0).presents .write = true) ∧
    (1 < 2 ∧ (rBurst 1).presents .write = true) :=
  ⟨run_of_goesOn (by decide), inv_of_check (by decide), by decide, by decide, by decide, by decide, by decide,
    by decide⟩

theorem witness_EmptyAfterDrain :
    (Run rRound 2 ∧ (rRound 0).Inv ∧ (rRound 0).params.viewMode = .direct ∧ NoNew rRound 2 ∧
      (rRound 0).isEmpty = true ∧ (delivered rRound 2).length = (accepted rRound 2).length) ∧
    ∃ σ : Nat → State, Run σ 1 ∧ (σ 0).Inv ∧ (σ 0).params.viewMode = .direct ∧ NoNew σ 1 ∧ (σ 0).rc = (σ 0).wc ∧
      (∀ t, t < 1 → stored σ t = false) ∧ (σ 0).presentsRead = true :=
  ⟨⟨rRound_runs, rRound_inv, by decide, by unfold NoNew; decide, by decide, by decide⟩,
    runOf (sEmpty 4), run_of_goesOn (by decide), inv_of_check (by decide), by decide, by unfold NoNew; decide,
    by decide, by decide, by decide⟩

theorem witness_UncheckedWritesKeepTheLastPartLap :
    Run rLap (3 + 1) ∧ (rLap 0).Inv ∧ (rLap 0).params.viewMode = .direct ∧ (rLap 0).wc = 0 ∧ (rLap 0).rc = 0 ∧
    NoNew rLap (3 + 1) ∧ (∀ t, t < 3 → (rLap t).presents .writeUnchecked = true ∧ gave rLap t = false) ∧
    (∀ t, 3 ≤ t → t < 3 + 1 → stored rLap t = false) ∧ (rLap (3 + 1)).isEmpty = true :=
  ⟨run_of_goesOn (by decide), inv_of_check (by decide), by decide, by decide, by decide, by unfold NoNew; decide,
    by decide, fun t h1 h2 => by have : t = 3 := by omega
                                 subst this; decide, by decide⟩

theorem witness_OnlyStoredElementsAreDelivered :
    Run rLap 4 ∧ (rLap 0).Inv ∧ (rLap 0).params.viewMode = .direct ∧ (rLap 0).wc = 0 ∧ (rLap 0).rc = 0 ∧
    NoNew rLap 4 ∧ 3 < 4 ∧ gave rLap 3 = true :=
  ⟨run_of_goesOn (by decide), inv_of_check (by decide), by decide, by decide, by decide, by unfold NoNew; decide,
    by decide, by decide⟩

theorem witness_SeenConditionsAreStable :
    (Run rSeen 2 ∧ (rSeen 0).Inv ∧ (rSeen 0).params.viewMode = .direct ∧ NoNew rSeen 2 ∧ (rSeen 0).fullO = false ∧
      ∀ t, t < 2 → stored rSeen t = false) ∧
    ∃ σ : Nat → State, Run σ 1 ∧ (σ 0).Inv ∧ (σ 0).params.viewMode = .direct ∧ NoNew σ 1 ∧ (σ 0).emptyO = false ∧
      (∀ t, t < 1 → gave σ t = false) ∧ NoOverrun σ 1 ∧ stored σ 0 = true :=
  ⟨⟨run_of_goesOn (by decide), inv_of_check (by decide), by decide, by unfold NoNew; decide, by decide, by decide⟩,
    runOf (sMid 1), run_of_goesOn (by decide), inv_of_check (by decide), by decide, by unfold NoNew; decide,
    by decide, by decide, by unfold NoOverrun; decide, by decide⟩

theorem witness_SeenConditionsAreStableWithStaleViews :
    Run rHold 3 ∧ (rHold 0).Inv ∧ (rHold 0).params.viewMode = .external ∧ (rHold 0).wc = 0 ∧ (rHold 0).rc = 0 ∧
    NoNew rHold 3 ∧ CheckedOnly rHold 3 ∧ ViewDuty rHold 3 before before ∧ 2 ≤ 3 ∧
    ((rHold 2).fullO = false ∧ ∀ t, t < 3 → 2 ≤ t → stored rHold t = false) ∧
    ((rHold 2).emptyO = false ∧ ∀ t, t < 3 → 2 ≤ t → gave rHold t = false) :=
  ⟨run_of_goesOn (by decide), inv_of_check (by decide), by decide, by decide, by decide, by unfold NoNew; decide,
    by unfold CheckedOnly; decide, ⟨by decide, by decide, by decide⟩, by decide, by decide, by decide⟩

theorem witness_DeliveredSlotKeepsItsElement :
    Run rSlot (1 + 1) ∧ (rSlot 0).Inv ∧ (rSlot 0).params.viewMode = .direct ∧ gave rSlot 0 = true ∧
    (∀ t, t ≤ 1 → (rSlot t).presents .write = true ∨ (rSlot t).presents .wnop = true) ∧
    (∀ t, 1 ≤ t → t ≤ 1 → gave rSlot t = false) ∧ stored rSlot 1 = true :=
  ⟨run_of_goesOn (by decide), inv_of_check (by decide), by decide, by decide, by decide,
    fun t h1 h2 => by have : t = 1 := by omega
                      subst this; decide, by decide⟩

theorem witness_RetryingProducerIsHeardInOrder :
    (Run rRound 2 ∧ (rRound 0).Inv ∧ (rRound 0).wc = 0 ∧ (rRound 0).rc = 0 ∧ ProducerRetries rRound 2 [0xA1] ∧
      (rRound 0).params.viewMode = .direct ∧ (delivered rRound 2).length = 1) ∧
    (Run rViews 5 ∧ (rViews 0).Inv ∧ (rViews 0).wc = 0 ∧ (rViews 0).rc = 0 ∧
      ProducerRetries rViews 5 [0x50, 0x51, 0x52, 0x53] ∧ (rViews 0).params.viewMode = .external ∧
      ∃ dr dw, ViewDuty rViews 5 dr dw) :=
  ⟨⟨rRound_runs, rRound_inv, by decide, by decide, by unfold ProducerRetries; decide, by decide, by decide⟩,
    rViews_runs, rViews_inv, by decide, by decide, by unfold ProducerRetries; decide, by decide, before, before,
    rViews_duty⟩

theorem witness_StoredElementsAreDeliveredInTime :
    (Run rRound 2 ∧ (rRound 0).Inv ∧ (rRound 0).wc = 0 ∧ (rRound 0).rc = 0 ∧ NoNew rRound 2 ∧ 1 ≤ 1 ∧ 1 ≤ 2 ∧
      (rRound 0).params.S - 1 ≤
        ((List.range 2).filter fun k => decide (1 ≤ k) && (rRound k).presentsRead).length ∧
      (rRound 0).params.viewMode = .direct ∧ NoOverrun rRound 2) ∧
    (Run rViews 5 ∧ (rViews 0).Inv ∧ (rViews 0).wc = 0 ∧ (rViews 0).rc = 0 ∧ NoNew rViews 5 ∧ 1 ≤ 2 ∧ 2 ≤ 5 ∧
      (rViews 0).params.S - 1 ≤
        ((List.range 5).filter fun k => decide (2 ≤ k) && (rViews k).presentsRead).length ∧
      (rViews 0).params.viewMode = .external ∧ CheckedOnly rViews 5 ∧
      ∃ dr dw, ViewDuty rViews 5 dr dw ∧ 1 ≤ dw 2) :=
  ⟨⟨rRound_runs, rRound_inv, by decide, by decide, by unfold NoNew; decide, by decide, by decide, by decide,
      by decide, by unfold NoOverrun; decide⟩,
    rViews_runs, rViews_inv, by decide, by decide, rViews_checked.1, by decide, by decide, by decide, by decide,
    rViews_checked.2, before, before, rViews_duty, by decide⟩

end Sys2Proof.Tests
end

section
/-! The width of a cursor (R9, R112): `ceilLog2` and `Params.AW` as least exponents, and the proof of O3. -/

namespace Sys2Proof

/-- `ceilLog2` and the powers of two form a Galois connection: this says all of R9's `ceil(log2)`. -/
theorem ceilLog2_le_iff {n k : Nat} : ceilLog2 n ≤ k ↔ n ≤ 2 ^ k := by
  unfold ceilLog2
  split
  case isTrue hn => simp [hn.trans Nat.one_le_two_pow]
  case isFalse hn =>
    have hpred : n - 1 ≠ 0 := by omega
    rw [Nat.succ_le_iff, Nat.log2_lt hpred]
    omega

theorem Params.one_le_AW (p : Params) : 1 ≤ p.AW := le_max_left ..

theorem Params.AW_le_iff {p : Params} {k : Nat} : p.AW ≤ k ↔ 1 ≤ k ∧ p.S ≤ 2 ^ k := by
  rw [Params.AW, max_le_iff, ceilLog2_le_iff]

theorem Params.S_le_two_pow_AW (p : Params) : p.S ≤ 2 ^ p.AW := (Params.AW_le_iff.mp le_rfl).2

/-- R112: `S` itself, and not only the cursor values below it, fits in `AW + 1` bits. -/
theorem Params.S_lt_two_pow_AW_succ (p : Params) : p.S < 2 ^ (p.AW + 1) :=
  p.S_le_two_pow_AW.trans_lt (Nat.pow_lt_pow_succ Nat.one_lt_two)

/-- Settles O3: each clause reads off that `AW ≤ k` exactly when `1 ≤ k` and `S ≤ 2 ^ k`. The argument also covers
`S = 0`, so the premise that the instance exists is not used. -/
theorem cursorWidthIsLeast : Obligations.CursorWidthIsLeast := fun p _ =>
  ⟨p.one_le_AW, p.S_le_two_pow_AW, fun _ hk hS => Params.AW_le_iff.mpr ⟨hk, hS⟩, p.S_lt_two_pow_AW_succ⟩

end Sys2Proof
end

section
/-! The invariant (R21, R23, R60): what each part of a cycle keeps of it, and the proofs of O35, O36 and O34. -/

namespace Sys2Proof

theorem Memory.put_lt {m : Memory} {a b : Nat} {v : Elem} (hm : ∀ c ∈ m, c.2 < b) (hv : v < b) :
    ∀ c ∈ put m a v, c.2 < b := by
  intro c hc
  rcases put_mem hc with hmem | hval
  · exact hm c hmem
  · exact hval ▸ hv

namespace Machine

/-! ## The cursors -/

theorem State.wcAfter_cases (s : State) (w : Instr) : s.wcAfter w = s.wc ∨ s.wcAfter w = adv s.params.S s.wc := by
  unfold State.wcAfter
  split
  · exact Or.inr rfl
  · exact Or.inl rfl

theorem State.rcAfter_cases (s : State) (r : Instr) : s.rcAfter r = s.rc ∨ s.rcAfter r = adv s.params.S s.rc := by
  unfold State.rcAfter
  split
  · exact Or.inr rfl
  · exact Or.inl rfl

theorem State.wcAfter_lt {s : State} (h : s.wc < s.params.S) (w : Instr) : s.wcAfter w < s.params.S := by
  rcases s.wcAfter_cases w with hw | hw
  · exact hw ▸ h
  · exact hw ▸ adv_lt h

theorem State.rcAfter_lt {s : State} (h : s.rc < s.params.S) (r : Instr) : s.rcAfter r < s.params.S := by
  rcases s.rcAfter_cases r with hr | hr
  · exact hr ▸ h
  · exact hr ▸ adv_lt h

/-! ## The free values and the next port values -/

theorem State.anyData_lt (s : State) : s.anyData < 2 ^ s.params.W := BitVec.isLt _

/-- The environment presents values of the ports' widths: the scripted ones by assumption, the free ones because each is
drawn with the width of its port. -/
theorem State.nextInputs_wf {s : State} (h : ∀ i ∈ s.env, i.wf s.params = true) : s.nextInputs.wf s.params = true := by
  unfold State.nextInputs
  split
  · next i rest he => exact h i (he ▸ List.mem_cons_self)
  · exact (Inputs.wf_iff _ _).mpr ⟨BitVec.isLt _, BitVec.isLt _, BitVec.isLt _, BitVec.isLt _⟩

/-! ## The storage and what is read from it -/

theorem State.Inv.wrData_lt {s : State} (h : s.Inv) : s.ports.wr_data_i < 2 ^ s.params.W :=
  ((Inputs.wf_iff _ _).mp h.ports).2.1

theorem State.Inv.fill_lt {s : State} (h : s.Inv) : s.ports.fill_i < 2 ^ s.params.W :=
  ((Inputs.wf_iff _ _).mp h.ports).1

theorem State.Inv.storageAfter_wf {s : State} (h : s.Inv) (w : Instr) :
    (s.storageAfter w).wf s.params.S = true := by
  unfold State.storageAfter
  split
  · exact (Memory.wf_put ..).trans h.storage
  · exact h.storage

theorem State.Inv.storageAfter_lt {s : State} (h : s.Inv) (w : Instr) :
    ∀ c ∈ s.storageAfter w, c.2 < 2 ^ s.params.W := by
  unfold State.storageAfter
  split
  · exact Memory.put_lt h.elements h.wrData_lt
  · exact h.elements

/-- What `rd_data_o` shows fits in `W` bits: a delivered element because it stood in the storage. -/
theorem State.Inv.readResult_lt {s : State} (h : s.Inv) (r : Instr) :
    (s.readResult r).getD s.anyData < 2 ^ s.params.W := by
  unfold State.readResult
  split
  · cases hr : s.storage.read s.rc with
    | none => exact s.anyData_lt
    | some v => exact h.elements _ (Memory.read_mem hr)
  · exact s.anyData_lt

/-! ## The two kinds of cycle -/

theorem State.Inv.afterPair {s : State} (h : s.Inv) (w r : Instr) : (s.afterPair w r).Inv where
  params := h.params
  storage := h.storageAfter_wf w
  elements := h.storageAfter_lt w
  wc_lt := State.wcAfter_lt h.wc_lt w
  rc_lt := State.rcAfter_lt h.rc_lt r
  ports := State.nextInputs_wf h.env
  env := fun i hi => h.env i (List.mem_of_mem_tail hi)
  out := (Outputs.wf_iff _ _).mpr ⟨h.readResult_lt r, h.wc_lt, h.rc_lt⟩

theorem State.Inv.afterNew {s : State} (h : s.Inv) : s.afterNew.Inv where
  params := h.params
  storage := Memory.wf_filled ..
  elements := fun _ hc => Memory.filled_mem hc ▸ h.fill_lt
  wc_lt := h.pos
  rc_lt := h.pos
  ports := State.nextInputs_wf h.env
  env := fun i hi => h.env i (List.mem_of_mem_tail hi)
  out := (Outputs.wf_iff _ _).mpr ⟨s.anyData_lt, h.wc_lt, h.rc_lt⟩

theorem step_params {s t : State} (h : step s = .next t) : t.params = s.params := by
  obtain ⟨-, ⟨-, rfl⟩ | ⟨w, r, -, -, -, rfl, -, -⟩⟩ := step_cases h
  · rfl
  · rfl

/-- Other port values of the right widths do not disturb the invariant. -/
theorem State.Inv.withPorts {s : State} (h : s.Inv) {i : Inputs} (hi : i.wf s.params = true) :
    State.Inv { s with ports := i } :=
  { h with ports := hi }

/-- Settles O35, by the two kinds of cycle a step can be. -/
theorem stepKeepsTheInvariant : Obligations.StepKeepsTheInvariant := by
  intro s t h hstep
  obtain ⟨-, ⟨-, rfl⟩ | ⟨w, r, -, -, -, rfl, -, -⟩⟩ := step_cases hstep
  · exact h.afterNew
  · exact h.afterPair w r

/-- Settles O36, by the two kinds of cycle a step can be. After `NEW` the cursors are in range because
slot `0` exists; no cycle writes a view into a cursor, so a broken view duty (U5) does no harm. -/
theorem cursorsStayInRange : Obligations.CursorsStayInRange := by
  intro s t hstep
  obtain ⟨hp, hkind⟩ := step_cases hstep
  have hS : 0 < s.params.S := ((Params.wf_iff _).mp hp).1
  have hwrap : adv s.params.S (s.params.S - 1) = 0 := if_pos (Nat.sub_add_cancel hS)
  rcases hkind with ⟨-, rfl⟩ | ⟨w, r, hd, hw, hr, rfl, -, -⟩
  · exact ⟨fun _ _ => ⟨hS, hS⟩, Or.inr (Or.inl rfl), Or.inr (Or.inl rfl), hwrap, fun _ => ⟨hS, hS⟩⟩
  · refine ⟨fun hwc hrc => ⟨State.wcAfter_lt hwc w, State.rcAfter_lt hrc r⟩, ?_, ?_, hwrap, fun hnew => ?_⟩
    · exact (s.wcAfter_cases w).imp_right Or.inr
    · exact (s.rcAfter_cases r).imp_right Or.inr
    · rw [State.presents_new_pair hd hw hr] at hnew
      contradiction

theorem idleInputs_wf (p : Params) : idleInputs.wf p = true := by
  simp [Inputs.wf_iff, idleInputs]

/-- The free fill value of the reset state fits in its `W` bits. -/
theorem resetFill_lt : (Config.resetFill Config.resetParams.W).toNat < 2 ^ State.reset.params.W := BitVec.isLt _

/-- Settles O34, field by field. -/
theorem resetMeetsTheInvariant : Obligations.ResetMeetsTheInvariant where
  params := by decide
  storage := reset_storage_wf
  elements := fun _ hc => Memory.filled_mem hc ▸ resetFill_lt
  wc_lt := by decide
  rc_lt := by decide
  ports := idleInputs_wf _
  env := fun _ hi => absurd hi List.not_mem_nil
  out := (Outputs.wf_iff _ _).mpr ⟨BitVec.isLt _, by decide, by decide⟩

end Machine
end Sys2Proof
end

section
/-! The conditions (R24 to R27) as facts about the distance from the read to the write cursor, what a constructed state
is, and the proofs of O31, O32 and O33. -/

namespace Sys2Proof

/-- R26 in its own form: the difference of the cursors as an integer, reduced modulo `S`. -/
theorem ahead_eq_emod {S r w : Nat} (hr : r < S) (hw : w < S) :
    (ahead S r w : Int) = ((w : Int) - (r : Int)) % (S : Int) := by
  unfold ahead
  split
  · next hle => rw [Int.emod_eq_of_lt (by omega) (by omega)]; omega
  · next hle => rw [← Int.add_emod_right, Int.emod_eq_of_lt (by omega) (by omega)]; omega

theorem ahead_right_injective {S r w w' : Nat} (hr : r < S) (hw : w < S) (hw' : w' < S)
    (h : ahead S r w = ahead S r w') : w = w' := by
  rw [← add_ahead_mod hr hw, h, add_ahead_mod hr hw']

namespace Machine

theorem State.Inv.occ_lt {s : State} (h : s.Inv) : s.occ < s.params.S := ahead_lt h.rc_lt h.wc_lt

theorem State.Inv.isEmpty_iff_occ {s : State} (h : s.Inv) : s.isEmpty = true ↔ s.occ = 0 := by
  rw [s.isEmpty_iff, s.occ_eq, ahead_eq_zero h.rc_lt]

theorem State.Inv.isFull_iff_occ {s : State} (h : s.Inv) : s.isFull = true ↔ s.occ = s.params.S - 1 := by
  rw [s.isFull_iff, s.occ_eq, ahead_full h.rc_lt h.wc_lt]

/-- R27: empty and full together need `0 = S - 1`, and there `occ`, being below `S`, is both. -/
theorem State.Inv.isEmpty_and_isFull_iff {s : State} (h : s.Inv) :
    (s.isEmpty = true ∧ s.isFull = true) ↔ s.params.S = 1 := by
  rw [h.isEmpty_iff_occ, h.isFull_iff_occ]
  have hlt := h.occ_lt
  omega

/-- Every place of the unread run names a slot, so none is dropped. -/
theorem State.Inv.unread_length {s : State} (h : s.Inv) : s.unread.length = s.occ := by
  unfold State.unread
  rw [List.filterMap_length_eq_length.mpr, List.length_range]
  exact fun k _ => (Memory.read_isSome_of_wf h.storage _).mpr (Nat.mod_lt _ h.pos)

/-- Settles O31: R25's modular form is the branch form of `adv` for a cursor in range, and in `DIRECT` mode each view is
the other cursor itself. -/
theorem emptyAndFullConditions : Obligations.EmptyAndFullConditions := by
  intro s h
  refine ⟨s.isEmpty_iff, ?_, fun hdirect => ⟨?_, ?_⟩⟩
  · rw [s.isFull_iff, adv_eq_mod h.wc_lt]
  · rw [State.emptyO, State.wv_direct hdirect, State.isEmpty]
  · rw [State.fullO, State.rv_direct hdirect, State.isFull]

/-- Settles O32: each clause is a fact about the distance `ahead S rc wc`. -/
theorem occupancyDecidesTheConditions : Obligations.OccupancyDecidesTheConditions := fun _ h =>
  ⟨ahead_eq_emod h.rc_lt h.wc_lt, h.occ_lt, h.isEmpty_iff_occ, h.isFull_iff_occ, h.isEmpty_and_isFull_iff,
    h.unread_length, fun _ hk => add_mod_ne_of_lt_ahead h.rc_lt h.wc_lt hk, add_ahead_mod h.rc_lt h.wc_lt⟩

/-- R33: a filled storage and both cursors at `0` are all that a constructed state consists of. -/
theorem State.constructed_of_filled {t : State} {v : Elem} (hstorage : t.storage = Memory.filled t.params.S v)
    (hwc : t.wc = 0) (hrc : t.rc = 0) : t.Constructed v := by
  refine ⟨hwc, hrc, fun a => hstorage ▸ Memory.read_filled .., ?_, ?_, ?_⟩
  · rw [t.isEmpty_iff, hwc, hrc]
  · rw [t.occ_eq, hwc, hrc, ahead_self]
  · rw [Bool.eq_iff_iff, t.isFull_iff, hwc, hrc, decide_eq_true_iff]
    unfold adv
    split <;> omega

/-- Settles O33, with the free fill value itself. -/
theorem resetIsConstructed : Obligations.ResetIsConstructed :=
  ⟨_, resetFill_lt, State.constructed_of_filled rfl rfl rfl⟩

end Machine
end Sys2Proof
end

section
/-! What one command leaves unchanged (R22, R56, R147) and where one stops (R34, U4, U6): everything a command of each
side can answer, and the proofs of O15, O16 and O38. -/

namespace Sys2Proof.Machine

/-! ## The commands that answer a next state -/

/-- All a write-side command that completes can do: store nothing, or store into slot `wc` and advance `wc`. -/
theorem exec_write_side_next {i : Instr} {s t : State} (hi : i.format = .w) (h : exec i s = .next t) :
    t = s.setWrAck false ∨
      t = ((s.setStorage (s.storage.put s.wc s.ports.wr_data_i)).setWc (adv s.params.S s.wc)).setWrAck true := by
  rw [exec_write_side s hi] at h
  split at h
  · rcases storeAndAdvance_cases s with ⟨-, hnext⟩ | ⟨-, hfault⟩
    · rw [hnext] at h; cases h; exact Or.inr rfl
    · rw [hfault] at h; cases h
  · cases h; exact Or.inl rfl

/-- All a read-side command that completes can do: deliver nothing, or deliver slot `rc` and advance `rc`. -/
theorem exec_read_side_next {i : Instr} {s t : State} (hi : i.format = .r) (h : exec i s = .next t) :
    t = s.setRdResult none ∨
      ∃ v, s.storage.read s.rc = some v ∧ t = (s.setRc (adv s.params.S s.rc)).setRdResult (some v) := by
  rw [exec_read_side s hi] at h
  split at h
  · rcases deliverAndAdvance_cases s with ⟨v, hv, hnext⟩ | ⟨-, hfault⟩
    · rw [hnext] at h; cases h; exact Or.inr ⟨v, hv, rfl⟩
    · rw [hfault] at h; cases h
  · cases h; exact Or.inl rfl

/-- Settles O15, by the two things a write-side command can do: its store reaches slot `wc` only. -/
theorem writeSideFrame : Obligations.WriteSideFrame := by
  intro i s t hi h
  rcases exec_write_side_next hi h with rfl | rfl
  case inl =>
    exact ⟨⟨rfl, rfl, rfl⟩, ⟨rfl, rfl, rfl, rfl, rfl, rfl, rfl, rfl⟩, fun _ _ => rfl, fun _ => ⟨rfl, fun _ => rfl⟩⟩
  case inr =>
    refine ⟨⟨rfl, rfl, rfl⟩, ⟨rfl, rfl, rfl, rfl, rfl, rfl, rfl, rfl⟩, fun a ha => ?_, fun hack => ?_⟩
    · exact (Memory.read_put ..).trans (if_neg ha)
    · exact absurd hack (by simp)

/-- Settles O16, by the two things a read-side command can do: neither touches the storage or the write side. -/
theorem readSideFrame : Obligations.ReadSideFrame := by
  intro i s t hi h
  rcases exec_read_side_next hi h with rfl | ⟨v, -, rfl⟩
  case inl => exact ⟨⟨rfl, fun _ => rfl, rfl⟩, ⟨rfl, rfl, rfl, rfl, rfl, rfl, rfl, rfl⟩, fun _ => rfl⟩
  case inr =>
    refine ⟨⟨rfl, fun _ => rfl, rfl⟩, ⟨rfl, rfl, rfl, rfl, rfl, rfl, rfl, rfl⟩, fun hvalid => ?_⟩
    exact absurd hvalid (by simp)

/-! ## Where the model stops -/

theorem eq_new_of_format_sys {i : Instr} (h : i.format = .sys) : i = .new := by
  revert h
  cases i <;> decide

/-- All a command can answer: a next state, or the one fault, and that only where its own side's cursor names no slot. -/
theorem exec_cases (i : Instr) (s : State) :
    (∃ t, exec i s = .next t) ∨
    (exec i s = .fault .noSuchSlot ∧
      ((i.format = .w ∧ s.storage.read s.wc = none) ∨ (i.format = .r ∧ s.storage.read s.rc = none))) := by
  cases hi : i.format with
  | sys =>
    cases eq_new_of_format_sys hi
    exact Or.inl ⟨_, rfl⟩
  | w =>
    rw [exec_write_side s hi]
    split
    · rcases storeAndAdvance_cases s with ⟨-, hnext⟩ | ⟨hnone, hfault⟩
      · exact Or.inl ⟨_, hnext⟩
      · exact Or.inr ⟨hfault, Or.inl ⟨rfl, hnone⟩⟩
    · exact Or.inl ⟨_, rfl⟩
  | r =>
    rw [exec_read_side s hi]
    split
    · rcases deliverAndAdvance_cases s with ⟨v, -, hnext⟩ | ⟨hnone, hfault⟩
      · exact Or.inl ⟨_, hnext⟩
      · exact Or.inr ⟨hfault, Or.inr ⟨rfl, hnone⟩⟩
    · exact Or.inl ⟨_, rfl⟩

theorem exec_ne_refused (i : Instr) (s : State) (e : Refusal) : exec i s ≠ .refused e := by
  rcases exec_cases i s with ⟨t, hnext⟩ | ⟨hfault, -⟩
  · simp [hnext]
  · simp [hfault]

theorem joinSides_ne_refused {w r : Result} (hw : ∀ e, w ≠ .refused e) (hr : ∀ e, r ≠ .refused e) (e : Refusal) :
    joinSides w r ≠ .refused e := by
  cases w with
  | next a =>
    cases r with
    | next b => simp [joinSides]
    | fault f => simp [joinSides]
    | refused e' => exact absurd rfl (hr e')
  | fault f => simp [joinSides]
  | refused e' => exact absurd rfl (hw e')

theorem runCommands_ne_refused (c : Cycle) (s : State) (e : Refusal) : runCommands c s ≠ .refused e := by
  cases c with
  | sys i => exact exec_ne_refused i s e
  | pair w r => exact joinSides_ne_refused (exec_ne_refused w s) (exec_ne_refused r s) e

theorem endCycle_refused_iff (s : State) (o : Result) (e : Refusal) : endCycle s o = .refused e ↔ o = .refused e := by
  cases o <;> simp [endCycle]

/-- A step refuses for ill-formed parameters only: the commands never do. -/
theorem step_refused_iff (s : State) (e : Refusal) : step s = .refused e ↔ e = .noInstance ∧ s.params.wf = false := by
  unfold step runCycle
  split
  · next hp => simp [endCycle_refused_iff, runCommands_ne_refused, hp]
  · next hp => simp [hp, eq_comm]

/-- Settles O38, from all a command can answer and the one refusal of a step. -/
theorem stopsOnlyOutsideTheInstance : Obligations.StopsOnlyOutsideTheInstance := by
  refine ⟨fun i s f h => ?_, exec_ne_refused, step_refused_iff⟩
  rcases exec_cases i s with ⟨t, hnext⟩ | ⟨hfault, hslot⟩
  · rw [hnext] at h; cases h
  · exact ⟨Host.Outcome.fault.inj (h.symm.trans hfault), hslot⟩

end Sys2Proof.Machine
end

section
/-! R32: which pairs of cursors checked commands alone reach from a constructed state, in `DIRECT` mode, and the proof of
O54. A `WRITE` moves `wc` unless the buffer is full, a `READ` moves `rc` unless it is empty; so the two cursors walk
together to `r`, and then `wc` walks ahead of `rc` over every distance up to `S - 1`. -/

namespace Sys2Proof.Machine

/-! ## One checked command -/

/-- The ports present `WRITE` alone or `READ` alone, with values of their widths. -/
def CheckedAlone (p : Params) (i : Inputs) : Prop :=
  i.wf p = true ∧ (decode i.cw = .pair .write .rnop ∨ decode i.cw = .pair .wnop .read)

/-- `u` is the state after a cycle in `t` that presents `WRITE` alone or `READ` alone. -/
def CheckedStep (t u : State) : Prop := ∃ i, CheckedAlone t.params i ∧ step { t with ports := i } = .next u

theorem CheckedStep.inv {t u : State} (h : CheckedStep t u) (ht : t.Inv) : u.Inv := by
  obtain ⟨i, ⟨hi, -⟩, hstep⟩ := h
  exact stepKeepsTheInvariant _ _ (ht.withPorts hi) hstep

theorem CheckedStep.params {t u : State} (h : CheckedStep t u) : u.params = t.params := by
  obtain ⟨i, -, hstep⟩ := h
  have hp := step_params hstep
  exact hp

/-- Steps by checked commands are the run of a script that presents them. -/
theorem exists_script_of_checkedSteps {s t : State} (h : Relation.ReflTransGen CheckedStep s t) :
    ∃ script : List Inputs, (∀ i ∈ script, CheckedAlone s.params i) ∧ driven script s = .next t := by
  induction h using Relation.ReflTransGen.head_induction_on with
  | refl => exact ⟨[], fun _ hi => absurd hi List.not_mem_nil, rfl⟩
  | head hstep _ ih =>
    obtain ⟨script, hscript, hrun⟩ := ih
    rw [hstep.params] at hscript
    obtain ⟨i, hi, hi_step⟩ := hstep
    exact ⟨i :: script, List.forall_mem_cons.mpr ⟨hi, hscript⟩, by rw [driven, hi_step]; exact hrun⟩

theorem idleInputs_withCommand_wf (p : Params) (cw : CommandWord) : Inputs.wf p { idleInputs with cw := cw } = true :=
  idleInputs_wf p

/-- `WRITE` alone advances `wc` unless the buffer is full. -/
theorem exists_checkedStep_write {t : State} (h : t.Inv) (hdirect : t.params.viewMode = .direct)
    (hroom : adv t.params.S t.wc ≠ t.rc) :
    ∃ u, CheckedStep t u ∧ u.rc = t.rc ∧ u.wc = adv t.params.S t.wc := by
  have hi := idleInputs_withCommand_wf t.params 0b00001#5
  have hd : decode 0b00001#5 = .pair .write .rnop := by decide
  refine ⟨_, ⟨_, ⟨hi, Or.inl hd⟩, step_pair (h.withPorts hi) hd rfl rfl⟩, rfl, if_pos ?_⟩
  simp [State.stores, State.fullO, State.rv, hdirect, hroom]

/-- `READ` alone advances `rc` unless the buffer is empty. -/
theorem exists_checkedStep_read {t : State} (h : t.Inv) (hdirect : t.params.viewMode = .direct) (hne : t.rc ≠ t.wc) :
    ∃ u, CheckedStep t u ∧ u.rc = adv t.params.S t.rc ∧ u.wc = t.wc := by
  have hi := idleInputs_withCommand_wf t.params 0b00100#5
  have hd : decode 0b00100#5 = .pair .wnop .read := by decide
  refine ⟨_, ⟨_, ⟨hi, Or.inr hd⟩, step_pair (h.withPorts hi) hd rfl rfl⟩, if_pos ?_, rfl⟩
  simp [State.delivers, State.emptyO, State.wv, hdirect, hne]

/-! ## The cursors they reach -/

/-- Checked commands alone lead from `s` to a state with the same parameters and the cursors `r` and `w`. -/
def ReachesCursors (s : State) (r w : Nat) : Prop :=
  ∃ t, Relation.ReflTransGen CheckedStep s t ∧ t.Inv ∧ t.params = s.params ∧ t.rc = r ∧ t.wc = w

theorem State.Inv.reachesCursors_self {s : State} (h : s.Inv) : ReachesCursors s s.rc s.wc :=
  ⟨s, .refl, h, rfl, rfl, rfl⟩

theorem ReachesCursors.write {s : State} {r w : Nat} (h : ReachesCursors s r w)
    (hdirect : s.params.viewMode = .direct) (hroom : adv s.params.S w ≠ r) : ReachesCursors s r (adv s.params.S w) := by
  obtain ⟨t, hst, ht, hp, rfl, rfl⟩ := h
  rw [← hp] at hdirect hroom ⊢
  obtain ⟨u, hu, hrc, hwc⟩ := exists_checkedStep_write ht hdirect hroom
  exact ⟨u, hst.tail hu, hu.inv ht, hu.params.trans hp, hrc, hwc⟩

theorem ReachesCursors.read {s : State} {r w : Nat} (h : ReachesCursors s r w)
    (hdirect : s.params.viewMode = .direct) (hne : r ≠ w) : ReachesCursors s (adv s.params.S r) w := by
  obtain ⟨t, hst, ht, hp, rfl, rfl⟩ := h
  rw [← hp] at hdirect ⊢
  obtain ⟨u, hu, hrc, hwc⟩ := exists_checkedStep_read ht hdirect hne
  exact ⟨u, hst.tail hu, hu.inv ht, hu.params.trans hp, hrc, hwc⟩

/-- The cursors walk together: one `WRITE` and one `READ` for each place. -/
theorem reachesCursors_diagonal {s : State} (hdirect : s.params.viewMode = .direct) (h : ReachesCursors s 0 0) (r : Nat)
    (hr : r < s.params.S) : ReachesCursors s r r := by
  induction r with
  | zero => exact h
  | succ r ih =>
    have hadv : adv s.params.S r = r + 1 := if_neg hr.ne
    have hmoves : adv s.params.S r ≠ r := by omega
    have hwritten := (ih (by omega)).write hdirect hmoves
    exact hadv ▸ hwritten.read hdirect hmoves.symm

/-- The write cursor walks ahead: one `WRITE` for each place up to a full buffer. -/
theorem reachesCursors_ahead {s : State} {r : Nat} (hdirect : s.params.viewMode = .direct) (hr : r < s.params.S)
    (h : ReachesCursors s r r) (k : Nat) (hk : k < s.params.S) :
    ∃ w, w < s.params.S ∧ ahead s.params.S r w = k ∧ ReachesCursors s r w := by
  induction k with
  | zero => exact ⟨r, hr, ahead_self .., h⟩
  | succ k ih =>
    obtain ⟨w, hw, hdist, hreach⟩ := ih (by omega)
    have hnotFull : ahead s.params.S r w ≠ s.params.S - 1 := by omega
    refine ⟨adv s.params.S w, adv_lt hw, ?_, hreach.write hdirect ((ahead_full hr hw).not.mp hnotFull)⟩
    rw [ahead_adv_to hr hw, if_neg hnotFull, hdist]

/-- Settles O54: along the diagonal to `r`, then ahead to `w`. -/
theorem everyCursorPairIsReachable : Obligations.EveryCursorPairIsReachable := by
  intro s r w h hdirect hwc hrc hr hw
  have hstart : ReachesCursors s 0 0 := by simpa [hwc, hrc] using h.reachesCursors_self
  have hdiagonal := reachesCursors_diagonal hdirect hstart r hr
  obtain ⟨w', hw', hdist, t, hst, -, -, htrc, htwc⟩ :=
    reachesCursors_ahead hdirect hr hdiagonal (ahead s.params.S r w) (ahead_lt hr hw)
  obtain ⟨script, hscript, hrun⟩ := exists_script_of_checkedSteps hst
  exact ⟨script, t, hscript, hrun, htrc, htwc.trans (ahead_right_injective hr hw' hw hdist)⟩

end Sys2Proof.Machine
end

section
/-! One cycle: which view each side tests (R48), that a store and the advance which publishes it are one event (R46,
R50), a cycle in which one side is idle (R51), and the proofs of O24, O30 and O20. -/

namespace Sys2Proof.Machine

/-- Settles O24, from the four laws of the views. -/
theorem viewsOfTheOtherCursor : Obligations.ViewsOfTheOtherCursor := fun _ =>
  ⟨fun h => ⟨State.rv_direct h, State.wv_direct h⟩, fun h => ⟨State.rv_external h, State.wv_external h⟩⟩

/-! ## A cycle that is no `NEW` -/

/-- All a step that is no `NEW` cycle can do. -/
theorem step_noNew_cases {s t : State} (h : step s = .next t) (hnew : s.presents .new = false) :
    ∃ w r, decode s.ports.cw = .pair w r ∧ w.format = .w ∧ r.format = .r ∧ t = s.afterPair w r ∧
      (s.stores w = true → (s.storage.read s.wc).isSome = true) ∧
      (s.delivers r = true → (s.storage.read s.rc).isSome = true) := by
  obtain ⟨-, ⟨hd, -⟩ | hpair⟩ := step_cases h
  · simp [State.presents_sys hd] at hnew
  · exact hpair

/-- Settles O30: the one condition `s.stores w` decides the acknowledgement, the store and the advance. -/
theorem storeAndPublishTogether : Obligations.StoreAndPublishTogether := by
  intro s t h hnew
  obtain ⟨w, r, -, -, -, rfl, hslot, -⟩ := step_noNew_cases h hnew
  refine ⟨fun (hack : s.stores w = true) => ⟨if_pos hack, ?_⟩, fun hmoved => ?_⟩
  · obtain ⟨v, hv⟩ := Option.isSome_iff_exists.mp (hslot hack)
    calc (s.storageAfter w).read s.wc
      _ = (s.storage.put s.wc s.ports.wr_data_i).read s.wc := by rw [State.storageAfter, if_pos hack]
      _ = some s.ports.wr_data_i := by simp [Memory.read_put, hv]
  · by_contra hack
    exact hmoved (if_neg hack)

/-! ## A cycle of one command -/

/-- Commands that complete end in a next state: their own, with the status outputs and the next port values put in. -/
theorem step_of_runCommands {s t : State} (hp : s.params.wf = true)
    (h : runCommands (decode s.ports.cw) s = .next t) : step s = .next (t.driveStatus s).nextCycle := by
  rw [step, runCycle, if_pos hp, h, endCycle]

/-- Settles O20, by the side of the command: the idle command of the other side answers in every state, and the command
itself leaves that side's state as it is. -/
theorem cycleOfOneCommandIsTheCommand : Obligations.CycleOfOneCommandIsTheCommand := by
  intro s t i hp hd hexec
  cases hi : i.format with
  | sys =>
    have hcycle : runCommands (decode s.ports.cw) s = .next t := by rw [hd, Instr.alone, hi]; exact hexec
    exact ⟨_, step_of_runCommands hp hcycle, by simp⟩
  | w =>
    have hcycle : runCommands (decode s.ports.cw) s = .next (joinStates t (s.setRdResult none)) := by
      rw [hd, Instr.alone, hi, runCommands, bothSides, hexec]; rfl
    have hrc : t.rc = s.rc := (writeSideFrame i s t hi hexec).1.1
    exact ⟨_, step_of_runCommands hp hcycle, by simp [hrc]⟩
  | r =>
    have hcycle : runCommands (decode s.ports.cw) s = .next (joinStates (s.setWrAck false) t) := by
      rw [hd, Instr.alone, hi, runCommands, bothSides, hexec]; rfl
    have hkept : t.storage = s.storage ∧ t.wc = s.wc := by
      obtain rfl | ⟨v, -, rfl⟩ := exec_read_side_next hi hexec <;> exact ⟨rfl, rfl⟩
    exact ⟨_, step_of_runCommands hp hcycle, by simp [hkept]⟩

end Sys2Proof.Machine
end

section
/-! R51: a cycle of two commands against the two sequential orders, in `DIRECT` mode, and the proof of O25. An order
equals the cycle as soon as the first command does not change what the second one decides. -/

namespace Sys2Proof

/-- R111: no two cursor values advance to the same one. -/
theorem adv_injective (S : Nat) : Function.Injective (adv S) := by
  intro i j h
  unfold adv at h
  split at h <;> split at h <;> omega

namespace Machine

/-! ## One command that finds its slot -/

/-- The state a write-side command leaves. -/
def State.afterWriteSide (s : State) (w : Instr) : State :=
  ((s.setStorage (s.storageAfter w)).setWc (s.wcAfter w)).setWrAck (s.stores w)

/-- The state a read-side command leaves. -/
def State.afterReadSide (s : State) (r : Instr) : State := (s.setRc (s.rcAfter r)).setRdResult (s.readResult r)

theorem exec_eq_afterWriteSide {s : State} {w : Instr} (hw : w.format = .w)
    (hslot : (s.storage.read s.wc).isSome = true) : exec w s = .next (s.afterWriteSide w) := by
  rw [exec_write_side s hw, State.afterWriteSide, State.storageAfter, State.wcAfter]
  cases s.stores w with
  | false => rfl
  | true =>
    rcases storeAndAdvance_cases s with ⟨-, hnext⟩ | ⟨hnone, -⟩
    · exact hnext
    · simp [hnone] at hslot

theorem exec_eq_afterReadSide {s : State} {r : Instr} (hr : r.format = .r)
    (hslot : (s.storage.read s.rc).isSome = true) : exec r s = .next (s.afterReadSide r) := by
  rw [exec_read_side s hr, State.afterReadSide, State.rcAfter, State.readResult]
  cases s.delivers r with
  | false => rfl
  | true =>
    rcases deliverAndAdvance_cases s with ⟨v, hv, hnext⟩ | ⟨hnone, -⟩
    · rw [hv]; exact hnext
    · simp [hnone] at hslot

theorem State.Inv.read_wc_isSome {s : State} (h : s.Inv) : (s.storage.read s.wc).isSome = true :=
  (Memory.read_isSome_of_wf h.storage _).mpr h.wc_lt

theorem State.Inv.read_rc_isSome {s : State} (h : s.Inv) : (s.storage.read s.rc).isSome = true :=
  (Memory.read_isSome_of_wf h.storage _).mpr h.rc_lt

theorem State.Inv.bothSides_eq {s : State} (h : s.Inv) {w r : Instr} (hw : w.format = .w) (hr : r.format = .r) :
    bothSides w r s = .next (joinStates (s.afterWriteSide w) (s.afterReadSide r)) := by
  rw [bothSides, exec_eq_afterWriteSide hw h.read_wc_isSome, exec_eq_afterReadSide hr h.read_rc_isSome, joinSides]

/-- In `DIRECT` mode a command stores or not by the full condition. -/
theorem State.stores_direct {s : State} (hdirect : s.params.viewMode = .direct) (w : Instr) :
    s.stores w = (w == .writeUnchecked || (w == .write && !s.isFull)) := by
  rw [State.stores, State.fullO, State.rv_direct hdirect, State.isFull]

/-- In `DIRECT` mode a command delivers or not by the empty condition. -/
theorem State.delivers_direct {s : State} (hdirect : s.params.viewMode = .direct) (r : Instr) :
    s.delivers r = ((r == .read || r == .readUnchecked) && !s.isEmpty) := by
  rw [State.delivers, State.emptyO, State.wv_direct hdirect, State.isEmpty]

/-! ## Two commands, one after the other -/

/-- Read first: the cycle, if the read does not change whether `w` stores. -/
theorem State.Inv.exec_write_afterReadSide {s : State} (h : s.Inv) {w r : Instr} (hw : w.format = .w)
    (hr : r.format = .r) (hsame : (s.afterReadSide r).stores w = s.stores w) :
    exec w (s.afterReadSide r) = bothSides w r s := by
  have hslot : ((s.afterReadSide r).storage.read (s.afterReadSide r).wc).isSome = true := h.read_wc_isSome
  rw [h.bothSides_eq hw hr, exec_eq_afterWriteSide hw hslot, State.afterWriteSide, State.storageAfter, State.wcAfter,
    hsame]
  rfl

/-- A store does not reach the slot that is read, as long as the cursors differ. -/
theorem State.read_storageAfter_rc {s : State} (w : Instr) (hne : s.rc ≠ s.wc) :
    (s.storageAfter w).read s.rc = s.storage.read s.rc := by
  unfold State.storageAfter
  split
  · rw [Memory.read_put, if_neg hne]
  · rfl

/-- Write first: the cycle, if the write does not change whether `r` delivers. -/
theorem State.Inv.exec_read_afterWriteSide {s : State} (h : s.Inv) (hdirect : s.params.viewMode = .direct)
    {w r : Instr} (hw : w.format = .w) (hr : r.format = .r)
    (hsame : (s.afterWriteSide w).delivers r = s.delivers r) :
    exec r (s.afterWriteSide w) = bothSides w r s := by
  have hslot : ((s.afterWriteSide w).storage.read s.rc).isSome = true :=
    (Memory.read_isSome_of_wf (h.storageAfter_wf w) _).mpr h.rc_lt
  have hresult : (s.afterWriteSide w).readResult r = s.readResult r := by
    rw [State.readResult, State.readResult, hsame]
    split
    · next hdel =>
      have hne : s.rc ≠ s.wc := by
        intro heq
        simp [State.delivers_direct hdirect, s.isEmpty_iff.mpr heq] at hdel
      exact State.read_storageAfter_rc w hne
    · rfl
  rw [h.bothSides_eq hw hr, exec_eq_afterReadSide hr hslot, State.afterReadSide, State.rcAfter, hsame, hresult]
  rfl

/-! ## What the first command changes of the second one's test -/

/-- A read leaves an empty buffer as it is, and makes no buffer full. -/
theorem State.isFull_afterReadSide {s : State} (hdirect : s.params.viewMode = .direct) (r : Instr)
    (hcond : s.isEmpty = true ∨ s.isFull = false) : (s.afterReadSide r).isFull = s.isFull := by
  cases hdel : s.delivers r with
  | false =>
    have hrc : (s.afterReadSide r).rc = s.rc := if_neg (by simp [hdel])
    exact congrArg (adv s.params.S s.wc == ·) hrc
  | true =>
    have hempty : s.isEmpty = false := by simp_all [State.delivers_direct hdirect]
    have hfull : s.isFull = false := by simpa [hempty] using hcond
    have hrc : (s.afterReadSide r).rc = adv s.params.S s.rc := if_pos hdel
    have hne : adv s.params.S s.wc ≠ adv s.params.S s.rc := fun heq =>
      absurd (s.isEmpty_iff.mpr (adv_injective _ heq.symm)) (by simp [hempty])
    rw [hfull, State.isFull, hrc]
    exact beq_false_of_ne hne

/-- A store into a buffer that is neither empty nor full leaves it not empty. -/
theorem State.isEmpty_afterWriteSide {s : State} (w : Instr)
    (hcond : s.stores w = true → s.isEmpty = false ∧ s.isFull = false) :
    (s.afterWriteSide w).isEmpty = s.isEmpty := by
  cases hst : s.stores w with
  | false =>
    have hwc : (s.afterWriteSide w).wc = s.wc := if_neg (by simp [hst])
    exact congrArg (s.rc == ·) hwc
  | true =>
    obtain ⟨hempty, hfull⟩ := hcond hst
    have hwc : (s.afterWriteSide w).wc = adv s.params.S s.wc := if_pos hst
    have hne : s.rc ≠ adv s.params.S s.wc := fun heq => absurd (s.isFull_iff.mpr heq.symm) (by simp [hfull])
    rw [hempty, State.isEmpty, hwc]
    exact beq_false_of_ne hne

/-- With one slot the buffer is empty whatever is stored. -/
theorem State.Inv.isEmpty_afterWriteSide_one {s : State} (h : s.Inv) (hone : s.params.S = 1) (w : Instr) :
    (s.afterWriteSide w).isEmpty = s.isEmpty := by
  have hrc := h.rc_lt
  have hwc := h.wc_lt
  have hwc' : (s.afterWriteSide w).wc < s.params.S := State.wcAfter_lt h.wc_lt w
  have hsame : s.rc = s.wc := by omega
  have hsame' : s.rc = (s.afterWriteSide w).wc := by omega
  rw [s.isEmpty_iff.mpr hsame]
  exact (s.afterWriteSide w).isEmpty_iff.mpr hsame'

/-! ## The orders -/

/-- Read first is the cycle where the read leaves the full condition as it is, and for `WRITE_UNCHECKED` always. -/
theorem State.Inv.readFirst_eq {s : State} (h : s.Inv) (hdirect : s.params.viewMode = .direct) {w r : Instr}
    (hw : w.format = .w) (hr : r.format = .r)
    (hcond : w = .writeUnchecked ∨ (s.afterReadSide r).isFull = s.isFull) :
    exec w (s.afterReadSide r) = bothSides w r s := by
  have hdirect' : (s.afterReadSide r).params.viewMode = .direct := hdirect
  refine h.exec_write_afterReadSide hw hr ?_
  rw [State.stores_direct hdirect', State.stores_direct hdirect]
  rcases hcond with rfl | hsame
  · rfl
  · rw [hsame]

/-- Write first is the cycle where the write leaves the empty condition as it is. -/
theorem State.Inv.writeFirst_eq {s : State} (h : s.Inv) (hdirect : s.params.viewMode = .direct) {w r : Instr}
    (hw : w.format = .w) (hr : r.format = .r) (hsame : (s.afterWriteSide w).isEmpty = s.isEmpty) :
    exec r (s.afterWriteSide w) = bothSides w r s := by
  have hdirect' : (s.afterWriteSide w).params.viewMode = .direct := hdirect
  refine h.exec_read_afterWriteSide hdirect hw hr ?_
  rw [State.delivers_direct hdirect', State.delivers_direct hdirect, hsame]

/-- Settles O25: in each case the command that runs first leaves the condition that the other one tests as it is. -/
theorem cycleIsASequentialOrder : Obligations.CycleIsASequentialOrder := by
  intro s w r h hdirect hw hr
  simp only [exec_eq_afterReadSide hr h.read_rc_isSome, exec_eq_afterWriteSide hw h.read_wc_isSome]
  have hread := h.readFirst_eq hdirect hw hr
  have hwrite := h.writeFirst_eq hdirect hw hr
  refine ⟨fun hempty => ?_, fun hfull hWrite => ?_, fun _ hUnchecked => ?_, fun hempty hfull => ⟨?_, ?_⟩,
    fun hone => ⟨?_, ?_⟩⟩
  · exact (hread (.inr (s.isFull_afterReadSide hdirect r (.inl hempty)))).symm
  · have hrejected : s.stores w = false := by simp [State.stores_direct hdirect, hWrite, hfull]
    exact (hwrite (s.isEmpty_afterWriteSide w (by simp [hrejected]))).symm
  · exact (hread (.inl hUnchecked)).symm
  · exact (hread (.inr (s.isFull_afterReadSide hdirect r (.inr hfull)))).symm
  · exact (hwrite (s.isEmpty_afterWriteSide w fun _ => ⟨hempty, hfull⟩)).symm
  · have hempty : s.isEmpty = true := (h.isEmpty_and_isFull_iff.mpr hone).1
    exact (hread (.inr (s.isFull_afterReadSide hdirect r (.inl hempty)))).symm
  · exact (hwrite (h.isEmpty_afterWriteSide_one hone w)).symm

end Machine
end Sys2Proof
end

section
/-! Runs without a `NEW` cycle: what one cycle does to the cursors, and that the cursors count the transfers modulo `S`
(R111, R119). -/

namespace Sys2Proof

/-- The cycles `k` with `d ≤ k < n` in which `p` is set, counted as `lagR` and `lagW` count (R57). -/
def countFrom (p : Nat → Bool) (d n : Nat) : Nat := ((List.range n).filter fun k => decide (d ≤ k) && p k).length

@[simp] theorem countFrom_self (p : Nat → Bool) (n : Nat) : countFrom p n n = 0 := by
  rw [countFrom, List.length_eq_zero_iff, List.filter_eq_nil_iff]
  intro k hk
  simp [Nat.not_le.mpr (List.mem_range.mp hk)]

theorem countFrom_succ (p : Nat → Bool) {d n : Nat} (h : d ≤ n) :
    countFrom p d (n + 1) = countFrom p d n + (p n).toNat := by
  rw [countFrom, countFrom, List.range_succ, List.filter_append, List.length_append]
  cases hp : p n <;> simp [h, hp]

theorem countFrom_add (p : Nat → Bool) {c d n : Nat} (hcd : c ≤ d) (hdn : d ≤ n) :
    countFrom p c d + countFrom p d n = countFrom p c n := by
  induction n, hdn using Nat.le_induction with
  | base => rw [countFrom_self, Nat.add_zero]
  | succ n hdn ih => rw [countFrom_succ p hdn, countFrom_succ p (hcd.trans hdn), ← ih, Nat.add_assoc]

namespace Machine

/-! ## Every state of a run -/

variable {σ : Nat → State} {n t : Nat}

theorem Run.params (hrun : Run σ n) (ht : t ≤ n) : (σ t).params = (σ 0).params := by
  induction t with
  | zero => rfl
  | succ t ih => rw [step_params (hrun t ht), ih (by omega)]

theorem Run.inv (hrun : Run σ n) (h : (σ 0).Inv) (ht : t ≤ n) : (σ t).Inv := by
  induction t with
  | zero => exact h
  | succ t ih => exact stepKeepsTheInvariant _ _ (ih (by omega)) (hrun t ht)

/-! ## The transfers of the first cycles -/

/-- The number of stores in the first `t` cycles. -/
def writes (σ : Nat → State) (t : Nat) : Nat := countFrom (stored σ) 0 t

/-- The number of deliveries in the first `t` cycles. -/
def reads (σ : Nat → State) (t : Nat) : Nat := countFrom (gave σ) 0 t

@[simp] theorem writes_zero (σ : Nat → State) : writes σ 0 = 0 := rfl
@[simp] theorem reads_zero (σ : Nat → State) : reads σ 0 = 0 := rfl

theorem writes_succ (σ : Nat → State) (t : Nat) : writes σ (t + 1) = writes σ t + (stored σ t).toNat :=
  countFrom_succ _ t.zero_le

theorem reads_succ (σ : Nat → State) (t : Nat) : reads σ (t + 1) = reads σ t + (gave σ t).toNat :=
  countFrom_succ _ t.zero_le

/-- R57: what the view of the write cursor does not show yet are the stores since the cycle it shows. -/
theorem writes_add_lagW (σ : Nat → State) (dw : Nat → Nat) (h : dw t ≤ t) :
    writes σ (dw t) + lagW σ dw t = writes σ t :=
  countFrom_add _ (Nat.zero_le _) h

/-- R57: what the view of the read cursor does not show yet are the deliveries since the cycle it shows. -/
theorem reads_add_lagR (σ : Nat → State) (dr : Nat → Nat) (h : dr t ≤ t) :
    reads σ (dr t) + lagR σ dr t = reads σ t :=
  countFrom_add _ (Nat.zero_le _) h

theorem writes_mono (σ : Nat → State) : Monotone (writes σ) := fun _ _ h =>
  Nat.le.intro (countFrom_add (stored σ) (Nat.zero_le _) h)

theorem reads_mono (σ : Nat → State) : Monotone (reads σ) := fun _ _ h =>
  Nat.le.intro (countFrom_add (gave σ) (Nat.zero_le _) h)

theorem accepted_succ (σ : Nat → State) (t : Nat) :
    accepted σ (t + 1) = accepted σ t ++ if stored σ t then [(σ t).ports.wr_data_i] else [] := by
  rw [accepted, accepted, List.range_succ, List.filterMap_append]
  cases h : stored σ t <;> simp [h]

theorem delivered_succ (σ : Nat → State) (t : Nat) :
    delivered σ (t + 1) = delivered σ t ++ if gave σ t then [(σ (t + 1)).out.rd_data_o] else [] := by
  rw [delivered, delivered, List.range_succ, List.filterMap_append]
  cases h : gave σ t <;> simp [h]

theorem accepted_length (σ : Nat → State) (t : Nat) : (accepted σ t).length = writes σ t := by
  induction t with
  | zero => rfl
  | succ t ih =>
    rw [accepted_succ, List.length_append, ih, writes_succ]
    cases stored σ t <;> rfl

theorem delivered_length (σ : Nat → State) (t : Nat) : (delivered σ t).length = reads σ t := by
  induction t with
  | zero => rfl
  | succ t ih =>
    rw [delivered_succ, List.length_append, ih, reads_succ]
    cases gave σ t <;> rfl

theorem accepted_prefix (σ : Nat → State) (h : t ≤ n) : accepted σ t <+: accepted σ n := by
  induction n, h using Nat.le_induction with
  | base => exact List.prefix_rfl
  | succ n _ ih => exact ih.trans (accepted_succ σ n ▸ List.prefix_append ..)

/-! ## The cursors count the transfers -/

/-- A cycle of a run without `NEW`. -/
theorem Run.afterPair (hrun : Run σ n) (hnew : NoNew σ n) (ht : t < n) :
    ∃ w r, decode (σ t).ports.cw = .pair w r ∧ w.format = .w ∧ r.format = .r ∧ σ (t + 1) = (σ t).afterPair w r := by
  obtain ⟨w, r, hd, hw, hr, hnext, -, -⟩ := step_noNew_cases (hrun t ht) (hnew t ht)
  exact ⟨w, r, hd, hw, hr, hnext⟩

theorem Run.wc_succ (hrun : Run σ n) (hnew : NoNew σ n) (ht : t < n) :
    (σ (t + 1)).wc = if stored σ t then adv (σ t).params.S (σ t).wc else (σ t).wc := by
  obtain ⟨w, r, -, -, -, hnext⟩ := hrun.afterPair hnew ht
  rw [stored, hnext]; rfl

theorem Run.rc_succ (hrun : Run σ n) (hnew : NoNew σ n) (ht : t < n) :
    (σ (t + 1)).rc = if gave σ t then adv (σ t).params.S (σ t).rc else (σ t).rc := by
  obtain ⟨w, r, -, -, -, hnext⟩ := hrun.afterPair hnew ht
  rw [gave, hnext]; rfl

/-- R119: the write cursor has advanced once for each store. -/
theorem Run.wc_eq (hrun : Run σ n) (h : (σ 0).Inv) (hnew : NoNew σ n) (ht : t ≤ n) :
    (σ t).wc = ((σ 0).wc + writes σ t) % (σ 0).params.S := by
  induction t with
  | zero => exact (Nat.mod_eq_of_lt h.wc_lt).symm
  | succ t ih =>
    rw [hrun.wc_succ hnew ht, hrun.params (by omega), ih (by omega), writes_succ]
    cases stored σ t with
    | false => rfl
    | true => exact (adv_eq_mod (Nat.mod_lt _ h.pos)).trans (Nat.mod_add_mod ..)

/-- R119: the read cursor has advanced once for each delivery. -/
theorem Run.rc_eq (hrun : Run σ n) (h : (σ 0).Inv) (hnew : NoNew σ n) (ht : t ≤ n) :
    (σ t).rc = ((σ 0).rc + reads σ t) % (σ 0).params.S := by
  induction t with
  | zero => exact (Nat.mod_eq_of_lt h.rc_lt).symm
  | succ t ih =>
    rw [hrun.rc_succ hnew ht, hrun.params (by omega), ih (by omega), reads_succ]
    cases gave σ t with
    | false => rfl
    | true => exact (adv_eq_mod (Nat.mod_lt _ h.pos)).trans (Nat.mod_add_mod ..)

/-! ## When a cycle transfers (R66) -/

/-- Only a buffer that the consumer sees as not empty is read. -/
theorem Run.emptyO_of_gave (hrun : Run σ n) (hnew : NoNew σ n) (ht : t < n) (hgave : gave σ t = true) :
    (σ t).emptyO = false := by
  obtain ⟨w, r, -, -, -, hnext⟩ := hrun.afterPair hnew ht
  have hdel : (σ t).delivers r = true := by rw [gave, hnext] at hgave; exact hgave
  simpa using (Bool.and_eq_true_iff.mp hdel).2

/-- A read of a buffer that the consumer sees as not empty delivers. -/
theorem Run.gave_of_presentsRead (hrun : Run σ n) (hnew : NoNew σ n) (ht : t < n)
    (hread : (σ t).presentsRead = true) (hempty : (σ t).emptyO = false) : gave σ t = true := by
  obtain ⟨w, r, hd, hw, -, hnext⟩ := hrun.afterPair hnew ht
  have hkind : .read = r ∨ .readUnchecked = r := by
    rw [State.presentsRead, State.presents_r hd hw rfl, State.presents_r hd hw rfl] at hread
    simpa using hread
  have hdel : (σ t).delivers r = true := by rcases hkind with rfl | rfl <;> simp [State.delivers, hempty]
  rw [gave, hnext]
  exact hdel

/-- A store is a `WRITE_UNCHECKED`, or a `WRITE` that the producer sees room for. -/
theorem Run.of_stored (hrun : Run σ n) (hnew : NoNew σ n) (ht : t < n) (hstored : stored σ t = true) :
    (σ t).presents .writeUnchecked = true ∨ (σ t).fullO = false := by
  obtain ⟨w, r, hd, -, hr, hnext⟩ := hrun.afterPair hnew ht
  have hst : (σ t).stores w = true := by rw [stored, hnext] at hstored; exact hstored
  rcases (Bool.or_eq_true_iff).mp hst with hunchecked | hchecked
  · left
    rw [State.presents_w hd hr rfl]
    exact decide_eq_true (eq_of_beq hunchecked).symm
  · right
    simpa using (Bool.and_eq_true_iff.mp hchecked).2

end Machine
end Sys2Proof
end

section
/-! The unread run over one cycle and over a run (R26, R121): a store adds its value at the end, a delivery takes the
first value away, and so long as no cycle stores into a full buffer or delivers from an empty one, the buffer is a
queue. -/

namespace Sys2Proof

/-- The distance stays when both cursors advance. -/
theorem ahead_adv_adv {S r w : Nat} (hr : r < S) (hw : w < S) : ahead S (adv S r) (adv S w) = ahead S r w := by
  unfold ahead adv
  repeat' split
  all_goals omega

/-! ## A run of slots -/

/-- The elements in `n` slots in rotation order from slot `a` on. -/
def slotRun (m : Memory) (S a n : Nat) : List Elem := (List.range n).filterMap fun k => m.read ((a + k) % S)

@[simp] theorem slotRun_zero (m : Memory) (S a : Nat) : slotRun m S a 0 = [] := rfl

theorem slotRun_snoc {m : Memory} {S a n : Nat} {v : Elem} (hv : m.read ((a + n) % S) = some v) :
    slotRun m S a (n + 1) = slotRun m S a n ++ [v] := by
  rw [slotRun, List.range_succ, List.filterMap_append, slotRun]
  simp [hv]

theorem slotRun_cons {m : Memory} {S a n : Nat} {v : Elem} (ha : a < S) (hv : m.read a = some v) :
    slotRun m S a (n + 1) = v :: slotRun m S (adv S a) n := by
  have hfirst : m.read ((a + 0) % S) = some v := by rw [Nat.add_zero, Nat.mod_eq_of_lt ha, hv]
  rw [slotRun, List.range_succ_eq_map, List.filterMap_cons, hfirst, List.filterMap_map, slotRun]
  simp only [Function.comp_def, adv_add_mod ha, Nat.succ_eq_add_one]

/-- A store outside the run leaves it as it is. -/
theorem slotRun_put {m : Memory} {S a n b : Nat} {v : Elem} (hb : ∀ k, k < n → (a + k) % S ≠ b) :
    slotRun (m.put b v) S a n = slotRun m S a n :=
  List.filterMap_congr fun k hk => by rw [Memory.read_put, if_neg (hb k (List.mem_range.mp hk))]

namespace Machine

theorem State.unread_eq (s : State) : s.unread = slotRun s.storage s.params.S s.rc s.occ := rfl

/-- Slot `wc` is never part of the unread run, so a store adds its value at the end of it. -/
theorem State.Inv.slotRun_storageAfter {s : State} (h : s.Inv) (w : Instr) :
    slotRun (s.storageAfter w) s.params.S s.rc (s.occ + (s.stores w).toNat) =
      s.unread ++ if s.stores w then [s.ports.wr_data_i] else [] := by
  rw [State.storageAfter, State.unread_eq]
  cases s.stores w with
  | false => simp
  | true =>
    have hend : (s.rc + s.occ) % s.params.S = s.wc := add_ahead_mod h.rc_lt h.wc_lt
    have hlast : (s.storage.put s.wc s.ports.wr_data_i).read ((s.rc + s.occ) % s.params.S) = some s.ports.wr_data_i := by
      rw [hend, Memory.read_put_of_wf h.storage h.wc_lt, if_pos rfl]
    have hmiss : ∀ k, k < s.occ → (s.rc + k) % s.params.S ≠ s.wc := fun k hk =>
      add_mod_ne_of_lt_ahead h.rc_lt h.wc_lt hk
    simp only [if_true, Bool.toNat_true]
    rw [slotRun_snoc hlast, slotRun_put hmiss]

/-- A cycle from `s` to `t` that stores only where there is room, if only by its own delivery, and delivers only
what is unread. -/
structure Orderly (s t : State) : Prop where
  room : t.out.wr_ack_o = true → s.isFull = false ∨ t.out.rd_valid_o = true
  unread : t.out.rd_valid_o = true → s.isEmpty = false

/-- R116: in such a cycle the occupancy counts the transfers. -/
theorem Orderly.occ_afterPair {s : State} {w r : Instr} (hord : Orderly s (s.afterPair w r)) (h : s.Inv) :
    (s.afterPair w r).occ + (s.delivers r).toNat = s.occ + (s.stores w).toNat := by
  have hroom : s.stores w = true → s.isFull = false ∨ s.delivers r = true := hord.room
  have hunread : s.delivers r = true → s.isEmpty = false := hord.unread
  show ahead s.params.S (s.rcAfter r) (s.wcAfter w) + _ = ahead s.params.S s.rc s.wc + _
  rw [State.rcAfter, State.wcAfter]
  cases hdel : s.delivers r with
  | false =>
    cases hst : s.stores w with
    | false => rfl
    | true =>
      have hnotFull : ahead s.params.S s.rc s.wc ≠ s.params.S - 1 := fun hocc => by
        simpa [h.isFull_iff_occ.mpr hocc, hdel] using hroom hst
      simp [ahead_adv_to h.rc_lt h.wc_lt, hnotFull]
  | true =>
    have hne : s.rc ≠ s.wc := fun heq => by simpa [s.isEmpty_iff.mpr heq] using hunread hdel
    have hocc : ahead s.params.S s.rc s.wc ≠ 0 := (ahead_eq_zero h.rc_lt).not.mpr hne
    cases hst : s.stores w with
    | false =>
      rw [if_pos rfl, if_neg Bool.false_ne_true, ahead_adv_from h.wc_lt, if_neg hne]
      exact Nat.sub_add_cancel (Nat.pos_of_ne_zero hocc)
    | true => simp [ahead_adv_adv h.rc_lt h.wc_lt]

/-- R121 for one cycle: what was unread and what is stored is what is delivered and what is unread then. -/
theorem Orderly.unread_afterPair {s : State} {w r : Instr} (hord : Orderly s (s.afterPair w r)) (h : s.Inv) :
    (s.unread ++ if s.stores w then [s.ports.wr_data_i] else []) =
      (if s.delivers r then [(s.afterPair w r).out.rd_data_o] else []) ++ (s.afterPair w r).unread := by
  have hunread : (s.afterPair w r).unread =
      slotRun (s.storageAfter w) s.params.S (s.rcAfter r) (s.afterPair w r).occ := rfl
  rw [← h.slotRun_storageAfter, ← hord.occ_afterPair h, hunread, State.rcAfter]
  cases hdel : s.delivers r with
  | false => rfl
  | true =>
    obtain ⟨v, hv⟩ := Option.isSome_iff_exists.mp h.read_rc_isSome
    have hne : s.rc ≠ s.wc := fun heq => by simpa [s.isEmpty_iff.mpr heq] using hord.unread hdel
    have hfirst : (s.storageAfter w).read s.rc = some v := (State.read_storageAfter_rc w hne).trans hv
    have hdata : (s.afterPair w r).out.rd_data_o = v := by
      show (s.readResult r).getD _ = v
      rw [State.readResult, hdel, if_pos rfl, hv, Option.getD_some]
    simp only [if_true, Bool.toNat_true, hdata]
    exact slotRun_cons h.rc_lt hfirst

/-! ## A run -/

variable {σ : Nat → State} {n : Nat}

/-- R121: in a run of such cycles the buffer is a queue. -/
theorem Run.fifo (hrun : Run σ n) (h : (σ 0).Inv) (hnew : NoNew σ n) (hord : ∀ t, t < n → Orderly (σ t) (σ (t + 1)))
    {t : Nat} (ht : t ≤ n) : (σ 0).unread ++ accepted σ t = delivered σ t ++ (σ t).unread := by
  induction t with
  | zero => simp [accepted, delivered]
  | succ t ih =>
    obtain ⟨w, r, -, -, -, hnext⟩ := hrun.afterPair hnew ht
    have hcycle : ((σ t).unread ++ if stored σ t then [(σ t).ports.wr_data_i] else []) =
        (if gave σ t then [(σ (t + 1)).out.rd_data_o] else []) ++ (σ (t + 1)).unread := by
      have hordered := hord t ht
      rw [stored, gave]
      rw [hnext] at hordered ⊢
      exact hordered.unread_afterPair (hrun.inv h (by omega))
    rw [accepted_succ, ← List.append_assoc, ih (by omega), List.append_assoc, hcycle, delivered_succ, List.append_assoc]

end Machine
end Sys2Proof
end

section
/-! R57: what stale views cannot break, and the proofs of O42 and O43. In `DIRECT` mode a view is the cursor of the
present cycle, in `EXTERNAL` mode under the duty of R49 one of an earlier cycle; both are cursors of a cycle not later
than now, and the bounds of R57 follow from that alone, counted in transfers since `NEW` and not modulo `S`. -/

namespace Sys2Proof

/-- Two counts less than a lap apart: the distance of the cursors they stand for is their difference. -/
theorem ahead_mod {S a b : Nat} (hab : a ≤ b) (hlap : b < a + S) : ahead S (a % S) (b % S) = b - a := by
  have hS : 0 < S := by omega
  have hdist := ahead_eq_emod (Nat.mod_lt a hS) (Nat.mod_lt b hS)
  rw [Int.natCast_mod, Int.natCast_mod, ← Int.sub_emod, Int.emod_eq_of_lt (by omega) (by omega)] at hdist
  omega

namespace Machine

variable {σ : Nat → State} {n t : Nat} {dr dw : Nat → Nat}

/-! ## Views of earlier cycles -/

/-- A run from cursors `0` without `NEW`. In cycle `t` the write side sees the read cursor of cycle `dr t` and the read
side the write cursor of cycle `dw t`, never going back; and a store finds room: its side sees the buffer as not full,
or the view of the read cursor moves over a delivery. -/
structure SeesEarlier (σ : Nat → State) (n : Nat) (dr dw : Nat → Nat) : Prop where
  run : Run σ n
  inv : (σ 0).Inv
  wc_zero : (σ 0).wc = 0
  rc_zero : (σ 0).rc = 0
  noNew : NoNew σ n
  rv : ∀ t, t ≤ n → dr t ≤ t ∧ (σ t).rv = (σ (dr t)).rc
  wv : ∀ t, t ≤ n → dw t ≤ t ∧ (σ t).wv = (σ (dw t)).wc
  forward : ∀ t, t < n → dr t ≤ dr (t + 1) ∧ dw t ≤ dw (t + 1)
  room : ∀ t, t < n → stored σ t = true → (σ t).fullO = false ∨ reads σ (dr t) < reads σ (dr (t + 1))

/-- R49: the view duty, with a producer that uses only `WRITE`. -/
theorem SeesEarlier.of_external (hrun : Run σ n) (h : (σ 0).Inv) (hmode : (σ 0).params.viewMode = .external)
    (hwc : (σ 0).wc = 0) (hrc : (σ 0).rc = 0) (hnew : NoNew σ n) (hchecked : CheckedOnly σ n)
    (hduty : ViewDuty σ n dr dw) : SeesEarlier σ n dr dw where
  run := hrun
  inv := h
  wc_zero := hwc
  rc_zero := hrc
  noNew := hnew
  rv t ht := (hduty.rptr t ht).imp_right (State.rv_external (hrun.params ht ▸ hmode)).trans
  wv t ht := (hduty.wptr t ht).imp_right (State.wv_external (hrun.params ht ▸ hmode)).trans
  forward := hduty.forward
  room t ht hstored := .inl ((hrun.of_stored hnew ht hstored).resolve_left (by simp [hchecked t ht]))

/-- R103: an unchecked write that is no overrun finds room, or the cycle delivers. -/
theorem Run.room_of_noOverrun (hrun : Run σ n) (hnew : NoNew σ n) (hmode : (σ t).params.viewMode = .direct)
    (hover : (σ t).overrun = false) (ht : t < n) (hstored : stored σ t = true) :
    (σ t).fullO = false ∨ gave σ t = true := by
  have hsame : (σ t).fullO = (σ t).isFull := by rw [State.fullO, State.rv_direct hmode, State.isFull]
  cases hfull : (σ t).fullO with
  | false => exact .inl rfl
  | true =>
    have hunchecked := (hrun.of_stored hnew ht hstored).resolve_right (by simp [hfull])
    have hread : (σ t).presentsRead = true ∧ (σ t).rc ≠ (σ t).wv := by
      simpa [State.overrun, hunchecked, ← hsame, hfull] using hover
    exact .inr (hrun.gave_of_presentsRead hnew ht hread.1 (beq_false_of_ne hread.2))

/-- R48: the views of `DIRECT` mode, in a run without an overrun. -/
theorem SeesEarlier.of_direct (hrun : Run σ n) (h : (σ 0).Inv) (hmode : (σ 0).params.viewMode = .direct)
    (hwc : (σ 0).wc = 0) (hrc : (σ 0).rc = 0) (hnew : NoNew σ n) (hover : NoOverrun σ n) : SeesEarlier σ n id id where
  run := hrun
  inv := h
  wc_zero := hwc
  rc_zero := hrc
  noNew := hnew
  rv t ht := ⟨le_rfl, State.rv_direct (hrun.params ht ▸ hmode)⟩
  wv t ht := ⟨le_rfl, State.wv_direct (hrun.params ht ▸ hmode)⟩
  forward t _ := ⟨t.le_succ, t.le_succ⟩
  room t ht hstored := by
    refine (hrun.room_of_noOverrun hnew (hrun.params ht.le ▸ hmode) (hover t ht) ht hstored).imp_right fun hgave => ?_
    simp [reads_succ, hgave]

namespace SeesEarlier

theorem wc_eq (h : SeesEarlier σ n dr dw) (ht : t ≤ n) : (σ t).wc = writes σ t % (σ t).params.S := by
  rw [h.run.wc_eq h.inv h.noNew ht, h.wc_zero, Nat.zero_add, h.run.params ht]

theorem rc_eq (h : SeesEarlier σ n dr dw) (ht : t ≤ n) : (σ t).rc = reads σ t % (σ t).params.S := by
  rw [h.run.rc_eq h.inv h.noNew ht, h.rc_zero, Nat.zero_add, h.run.params ht]

theorem rv_eq (h : SeesEarlier σ n dr dw) (ht : t ≤ n) : (σ t).rv = reads σ (dr t) % (σ t).params.S := by
  obtain ⟨hle, hrv⟩ := h.rv t ht
  rw [hrv, h.rc_eq (hle.trans ht), h.run.params (hle.trans ht), h.run.params ht]

theorem wv_eq (h : SeesEarlier σ n dr dw) (ht : t ≤ n) : (σ t).wv = writes σ (dw t) % (σ t).params.S := by
  obtain ⟨hle, hwv⟩ := h.wv t ht
  rw [hwv, h.wc_eq (hle.trans ht), h.run.params (hle.trans ht), h.run.params ht]

end SeesEarlier

/-! ## The bounds -/

/-- R57's bounds in cycle `t`: the buffer does not hold more than fits behind the read cursor that the producer sees,
and the consumer has not read past the write cursor that it sees. -/
structure WithinViews (σ : Nat → State) (dr dw : Nat → Nat) (t : Nat) : Prop where
  behindReads : writes σ t ≤ reads σ (dr t) + ((σ t).params.S - 1)
  behindWrites : reads σ t ≤ writes σ (dw t)

/-- Within the bounds the four counts stand in this order, over less than a lap. -/
theorem WithinViews.chain (hb : WithinViews σ dr dw t) (h : SeesEarlier σ n dr dw) (ht : t ≤ n) :
    reads σ (dr t) ≤ reads σ t ∧ reads σ t ≤ writes σ (dw t) ∧ writes σ (dw t) ≤ writes σ t ∧
      writes σ t < reads σ (dr t) + (σ t).params.S := by
  have hS := (h.run.inv h.inv ht).pos
  have hroom := hb.behindReads
  exact ⟨reads_mono σ (h.rv t ht).1, hb.behindWrites, writes_mono σ (h.wv t ht).1, by omega⟩

theorem WithinViews.occ_eq (hb : WithinViews σ dr dw t) (h : SeesEarlier σ n dr dw) (ht : t ≤ n) :
    writes σ t = reads σ t + (σ t).occ := by
  obtain ⟨hr, hrw, hw, hlap⟩ := hb.chain h ht
  rw [State.occ_eq, h.rc_eq ht, h.wc_eq ht, ahead_mod (by omega) (by omega)]
  omega

theorem WithinViews.fullO_iff (hb : WithinViews σ dr dw t) (h : SeesEarlier σ n dr dw) (ht : t ≤ n) :
    (σ t).fullO = true ↔ writes σ t = reads σ (dr t) + ((σ t).params.S - 1) := by
  obtain ⟨hr, hrw, hw, hlap⟩ := hb.chain h ht
  have hS := (h.run.inv h.inv ht).pos
  rw [State.fullO_iff, h.wc_eq ht, h.rv_eq ht, ← ahead_full (Nat.mod_lt _ hS) (Nat.mod_lt _ hS),
    ahead_mod (by omega) (by omega)]
  omega

theorem WithinViews.emptyO_iff (hb : WithinViews σ dr dw t) (h : SeesEarlier σ n dr dw) (ht : t ≤ n) :
    (σ t).emptyO = true ↔ reads σ t = writes σ (dw t) := by
  obtain ⟨hr, hrw, hw, hlap⟩ := hb.chain h ht
  have hS := (h.run.inv h.inv ht).pos
  rw [State.emptyO_iff, h.rc_eq ht, h.wv_eq ht, ← ahead_eq_zero (Nat.mod_lt _ hS), ahead_mod (by omega) (by omega)]
  omega

/-- R57: a cycle keeps the bounds: a store needs the seen room, a delivery a seen element, and views go forward. -/
theorem WithinViews.succ (hb : WithinViews σ dr dw t) (h : SeesEarlier σ n dr dw) (ht : t < n) :
    WithinViews σ dr dw (t + 1) := by
  obtain ⟨hforwardR, hforwardW⟩ := h.forward t ht
  have hr := reads_mono σ hforwardR
  have hw := writes_mono σ hforwardW
  have hroom := hb.behindReads
  have hunread := hb.behindWrites
  have hone : true.toNat = 1 := rfl
  constructor
  · rw [writes_succ, step_params (h.run t ht)]
    cases hstored : stored σ t with
    | false => exact hroom.trans (Nat.add_le_add_right hr _)
    | true =>
      rcases h.room t ht hstored with hnotFull | hmoves
      · have hne := (hb.fullO_iff h ht.le).not.mp (by simp [hnotFull])
        omega
      · omega
  · rw [reads_succ]
    cases hgave : gave σ t with
    | false => exact hunread.trans hw
    | true =>
      have hne := (hb.emptyO_iff h ht.le).not.mp (by simp [h.run.emptyO_of_gave h.noNew ht hgave])
      omega

/-- R57: the bounds hold in every cycle. -/
theorem SeesEarlier.withinViews (h : SeesEarlier σ n dr dw) (ht : t ≤ n) : WithinViews σ dr dw t := by
  induction t with
  | zero => exact ⟨by simp, by simp⟩
  | succ t ih => exact (ih (by omega)).succ h ht

/-! ## What follows from the bounds -/

namespace SeesEarlier

theorem occ_eq (h : SeesEarlier σ n dr dw) (ht : t ≤ n) : writes σ t = reads σ t + (σ t).occ :=
  (h.withinViews ht).occ_eq h ht

/-- The occupancy and the deliveries that the producer does not see yet fit into the buffer together. -/
theorem occ_add_lagR_le (h : SeesEarlier σ n dr dw) (ht : t ≤ n) :
    (σ t).occ + lagR σ dr t ≤ (σ t).params.S - 1 := by
  have hroom := (h.withinViews ht).behindReads
  have hocc := h.occ_eq ht
  have hlag := reads_add_lagR σ dr (h.rv t ht).1
  omega

/-- The stores that the consumer does not see yet are unread. -/
theorem lagW_le_occ (h : SeesEarlier σ n dr dw) (ht : t ≤ n) : lagW σ dw t ≤ (σ t).occ := by
  have hunread := (h.withinViews ht).behindWrites
  have hocc := h.occ_eq ht
  have hlag := writes_add_lagW σ dw (h.wv t ht).1
  omega

/-- `full_o` errs toward full. -/
theorem fullO_of_isFull (h : SeesEarlier σ n dr dw) (ht : t ≤ n) (hfull : (σ t).isFull = true) :
    (σ t).fullO = true := by
  have hb := h.withinViews ht
  obtain ⟨hr, hrw, hw, hlap⟩ := hb.chain h ht
  have hocc := h.occ_eq ht
  have hlast := (h.run.inv h.inv ht).isFull_iff_occ.mp hfull
  rw [hb.fullO_iff h ht]
  omega

/-- `empty_o` errs toward empty. -/
theorem emptyO_of_isEmpty (h : SeesEarlier σ n dr dw) (ht : t ≤ n) (hempty : (σ t).isEmpty = true) :
    (σ t).emptyO = true := by
  have hb := h.withinViews ht
  obtain ⟨hr, hrw, hw, hlap⟩ := hb.chain h ht
  have hocc := h.occ_eq ht
  have hzero := (h.run.inv h.inv ht).isEmpty_iff_occ.mp hempty
  rw [hb.emptyO_iff h ht]
  omega

theorem isEmpty_of_gave (h : SeesEarlier σ n dr dw) (ht : t < n) (hgave : gave σ t = true) :
    (σ t).isEmpty = false := by
  by_contra hempty
  have hsees := h.emptyO_of_isEmpty ht.le (by simpa using hempty)
  simp [h.run.emptyO_of_gave h.noNew ht hgave] at hsees

/-- R57: an accepted write never goes to a slot of the unread run, and a delivering read delivers the oldest unread
element. -/
theorem orderly (h : SeesEarlier σ n dr dw) (ht : t < n) : Orderly (σ t) (σ (t + 1)) where
  room := by
    intro (hstored : stored σ t = true)
    refine or_iff_not_imp_right.mpr fun (hnotGave : ¬gave σ t = true) => ?_
    have hroom := (h.withinViews (t := t + 1) ht).behindReads
    have hseen := reads_mono σ (h.rv (t + 1) ht).1
    rw [reads_succ, Bool.eq_false_of_not_eq_true hnotGave, Bool.toNat_false] at hseen
    rw [writes_succ, hstored, Bool.toNat_true, step_params (h.run t ht)] at hroom
    have hocc := h.occ_eq ht.le
    rw [← Bool.not_eq_true, (h.run.inv h.inv ht.le).isFull_iff_occ]
    omega
  unread := h.isEmpty_of_gave ht

/-- R121 with stale views: first in, first out. -/
theorem fifo (h : SeesEarlier σ n dr dw) (ht : t ≤ n) : accepted σ t = delivered σ t ++ (σ t).unread := by
  have hstart : (σ 0).unread = [] := by
    rw [State.unread_eq, State.occ_eq, h.wc_zero, h.rc_zero, ahead_self, slotRun_zero]
  simpa [hstart] using h.run.fifo h.inv h.noNew (fun _ => h.orderly) ht

end SeesEarlier

/-- Settles O42: the bounds of R57 and what follows from them, for the views of R49. -/
theorem staleViewsStayBehind : Obligations.StaleViewsStayBehind := by
  intro σ n dr dw hrun hinv hmode hwc hrc hnew hchecked hduty t ht
  have h := SeesEarlier.of_external hrun hinv hmode hwc hrc hnew hchecked hduty
  refine ⟨h.occ_add_lagR_le ht, h.lagW_le_occ ht, h.fullO_of_isFull ht, h.emptyO_of_isEmpty ht, fun hlt hgave heq => ?_⟩
  simpa [(σ t).isEmpty_iff.mpr heq] using h.isEmpty_of_gave hlt hgave

/-- Settles O43: under the duty of R49 every cycle stores where there is room and delivers what is unread, so the buffer is
a queue. -/
theorem fifoOrderWithStaleViews : Obligations.FifoOrderWithStaleViews := by
  intro σ n dr dw hrun hinv hmode hwc hrc hnew hchecked hduty
  have h := SeesEarlier.of_external hrun hinv hmode hwc hrc hnew hchecked hduty
  refine ⟨h.fifo le_rfl, ?_⟩
  rw [accepted_length, delivered_length]
  exact h.occ_eq le_rfl

end Machine
end Sys2Proof
end

section
/-! A bound on progress (R49, R57, R172): a read that the consumer presents while something it sees is unread delivers,
and the proof of O53. -/

namespace Sys2Proof.Machine

variable {σ : Nat → State} {n t u m k : Nat} {dr dw : Nat → Nat}

namespace SeesEarlier

theorem dw_le (h : SeesEarlier σ n dr dw) (huk : u ≤ k) (hk : k ≤ n) : dw u ≤ dw k := by
  induction k, huk using Nat.le_induction with
  | base => exact le_rfl
  | succ k _ ih => exact (ih (by omega)).trans (h.forward k hk).2

/-- While fewer than `m` elements have been delivered, and the consumer has seen as many stored, a read delivers. -/
theorem gave_of_reads_lt (h : SeesEarlier σ n dr dw) (hseen : m ≤ writes σ (dw u)) (huk : u ≤ k) (hk : k < n)
    (hbehind : reads σ k < m) (hread : (σ k).presentsRead = true) : gave σ k = true := by
  refine h.run.gave_of_presentsRead h.noNew hk hread ?_
  have hforward := writes_mono σ (h.dw_le huk hk.le)
  rw [← Bool.not_eq_true, (h.withinViews hk.le).emptyO_iff h hk.le]
  omega

/-- So from cycle `u` on each read presented counts, until `m` elements have been delivered. -/
theorem reads_catch_up (h : SeesEarlier σ n dr dw) (hseen : m ≤ writes σ (dw u)) (huk : u ≤ k) (hk : k ≤ n) :
    m ≤ reads σ k ∨ reads σ u + countFrom (fun j => (σ j).presentsRead) u k ≤ reads σ k := by
  induction k, huk using Nat.le_induction with
  | base => simp
  | succ k huk ih =>
    rw [reads_succ, countFrom_succ _ huk]
    by_cases hbehind : reads σ k < m
    · have hcount := (ih (by omega)).resolve_left (by omega)
      right
      cases hread : (σ k).presentsRead with
      | false => simp only [Bool.toNat_false]; omega
      | true =>
        rw [h.gave_of_reads_lt hseen huk hk hbehind hread]
        omega
    · left
      omega

/-- What was stored by cycle `t`, and is in the consumer's view in cycle `u`, is at most a buffer full ahead of the
deliveries: as many reads deliver it. -/
theorem accepted_prefix_delivered (h : SeesEarlier σ n dr dw) (htu : t ≤ u) (hun : u ≤ n) (hseen : t ≤ dw u)
    (hcount : (σ 0).params.S - 1 ≤ countFrom (fun k => (σ k).presentsRead) u n) :
    accepted σ t <+: delivered σ n := by
  have hstored := writes_mono σ htu
  have hocc := h.occ_eq hun
  have hfits := (h.run.inv h.inv hun).occ_lt
  rw [h.run.params hun] at hfits
  have hdelivered : writes σ t ≤ reads σ n := by
    rcases h.reads_catch_up (writes_mono σ hseen) hun le_rfl with hdone | hall
    · exact hdone
    · omega
  have hprefix : delivered σ n <+: accepted σ n := h.fifo le_rfl ▸ List.prefix_append ..
  refine List.prefix_of_prefix_length_le (accepted_prefix σ (htu.trans hun)) hprefix ?_
  rwa [accepted_length, delivered_length]

end SeesEarlier

/-- Settles O53, for both view modes at once: in `DIRECT` mode the view of cycle `u` is the cursor of cycle `u`. -/
theorem storedElementsAreDeliveredInTime : Obligations.StoredElementsAreDeliveredInTime := by
  intro σ n t u hrun hinv hwc hrc hnew htu hun hcount hmode
  rcases hmode with ⟨hdirect, hover⟩ | ⟨hexternal, hchecked, dr, dw, hduty, hseen⟩
  · exact (SeesEarlier.of_direct hrun hinv hdirect hwc hrc hnew hover).accepted_prefix_delivered htu hun htu hcount
  · exact (SeesEarlier.of_external hrun hinv hexternal hwc hrc hnew hchecked hduty).accepted_prefix_delivered htu hun
      hseen hcount

end Sys2Proof.Machine
end

section
/-! The command word (R61 to R64, R68, R69): the decoder and the encoder one field at a time, that they are inverse up to
the canonical spelling, and the proofs of O6, O4 and O5. -/

namespace Sys2Proof

open Sys2Proof.Machine

/-! ## The two fields -/

/-- A side's field with its mode bit cleared where its enable bit is clear (R69). -/
def canonicalField (f : BitVec 2) : BitVec 2 := if f.getLsbD 0 then f else 0#2

theorem decodeW_of_not_enabled {f : BitVec 2} (h : f.getLsbD 0 = false) : decodeW f = .wnop :=
  if_neg (ne_true_of_eq_false h)

theorem decodeR_of_not_enabled {f : BitVec 2} (h : f.getLsbD 0 = false) : decodeR f = .rnop :=
  if_neg (ne_true_of_eq_false h)

theorem decodeW_fieldW {i : Instr} (h : i.format = .w) : decodeW (fieldW i) = i := by
  revert h
  cases i <;> decide

theorem decodeR_fieldR {i : Instr} (h : i.format = .r) : decodeR (fieldR i) = i := by
  revert h
  cases i <;> decide

theorem fieldW_decodeW : ∀ f : BitVec 2, fieldW (decodeW f) = canonicalField f := by decide

theorem fieldR_decodeR : ∀ f : BitVec 2, fieldR (decodeR f) = canonicalField f := by decide

/-! ## Words of two fields -/

/-- The word with `cw[4]` clear, `g` in `cw[3:2]` and `f` in `cw[1:0]`. -/
def pairWord (g f : BitVec 2) : CommandWord := 0#1 ++ (g ++ f)

theorem pairWord_getLsbD_four (g f : BitVec 2) : (pairWord g f).getLsbD 4 = false :=
  BitVec.getLsbD_append.trans (by simp)

theorem pairWord_extract_w (g f : BitVec 2) : (pairWord g f).extractLsb' 0 2 = f :=
  (BitVec.extractLsb'_append_eq_of_add_le (by decide)).trans BitVec.extractLsb'_append_eq_right

theorem pairWord_extract_r (g f : BitVec 2) : (pairWord g f).extractLsb' 2 2 = g := by
  calc (pairWord g f).extractLsb' 2 2
    _ = (g ++ f).extractLsb' 2 2 := BitVec.extractLsb'_append_eq_of_add_le (by decide)
    _ = g.extractLsb' 0 2 := BitVec.extractLsb'_append_eq_of_le (by decide)
    _ = g := BitVec.extractLsb'_eq_self

theorem encode_pair (w r : Instr) : encode (.pair w r) = pairWord (fieldR r) (fieldW w) := rfl

theorem canonical_of_not_rst : ∀ cw : CommandWord, cw.getLsbD 4 = false →
    canonical cw = pairWord (canonicalField (cw.extractLsb' 2 2)) (canonicalField (cw.extractLsb' 0 2)) := by
  decide

/-! ## Decoding and encoding -/

theorem decode_of_rst {cw : CommandWord} (h : cw.getLsbD 4 = true) : decode cw = .sys .new := if_pos h

theorem decode_of_not_rst {cw : CommandWord} (h : cw.getLsbD 4 = false) :
    decode cw = .pair (decodeW (cw.extractLsb' 0 2)) (decodeR (cw.extractLsb' 2 2)) :=
  if_neg (ne_true_of_eq_false h)

theorem decode_pairWord (g f : BitVec 2) : decode (pairWord g f) = .pair (decodeW f) (decodeR g) := by
  rw [decode_of_not_rst (pairWord_getLsbD_four g f), pairWord_extract_w, pairWord_extract_r]

theorem decode_wf (cw : CommandWord) : (decode cw).wf = true := by
  rcases decode_cases cw with ⟨-, hd⟩ | ⟨-, w, r, hd, hw, hr⟩
  · rw [hd]; rfl
  · simp [hd, Cycle.wf, hw, hr]

theorem decode_encode {c : Cycle} (h : c.wf = true) : decode (encode c) = c := by
  cases c with
  | sys i =>
    have hi : i = .new := eq_new_of_format_sys (eq_of_beq h)
    rw [hi]; decide
  | pair w r =>
    obtain ⟨hw, hr⟩ : w.format = .w ∧ r.format = .r := by simpa [Cycle.wf] using h
    rw [encode_pair, decode_pairWord, decodeW_fieldW hw, decodeR_fieldR hr]

/-- The encoder forgets what the decoder does not read: the bits beside `cw[4]`, or the mode bits without an enable. -/
theorem encode_decode (cw : CommandWord) : encode (decode cw) = canonical cw := by
  cases h : cw.getLsbD 4 with
  | true => rw [decode_of_rst h, canonical, if_pos h, encode]
  | false => rw [decode_of_not_rst h, canonical_of_not_rst cw h, encode_pair, fieldR_decodeR, fieldW_decodeW]

theorem canonical_encode {c : Cycle} (h : c.wf = true) : canonical (encode c) = encode c := by
  rw [← encode_decode, decode_encode h]

theorem decode_canonical (cw : CommandWord) : decode (canonical cw) = decode cw := by
  rw [← encode_decode, decode_encode (decode_wf cw)]

/-- A word in the low five bits of a byte is read back, and the bytes after it are left. -/
theorem decodeBytes_setWidth (cw : CommandWord) (rest : List Byte) :
    decodeBytes (cw.setWidth 8 :: rest) = .ok (decode cw, rest) := by
  have hhigh : (cw.setWidth 8).extractLsb' 5 3 = 0#3 := by ext i hi; simp
  have hlow : (cw.setWidth 8).extractLsb' 0 5 = cw :=
    (BitVec.extractLsb'_setWidth_of_le (by decide)).trans BitVec.extractLsb'_eq_self
  rw [decodeBytes, if_pos hhigh, hlow]

/-- Settles O6: on well-formed cycles `decode` undoes `encode` field by field, and the other order is `canonical`; the
remaining clauses follow from these two equations. -/
theorem decodeEncodeAgree : Obligations.DecodeEncodeAgree := by
  refine ⟨fun c h => ⟨decode_encode h, canonical_encode h, fun rest => ?_⟩,
    fun cw => ⟨decode_wf cw, encode_decode cw, decode_canonical cw⟩⟩
  rw [decodeBytes_setWidth, decode_encode h]

/-! ## The command table -/

/-- R68: the commands of a word are those whose row `cw & mask == match` selects. -/
theorem has_decode_eq_selectedBy (i : Instr) : ∀ cw : CommandWord, (decode cw).has i = i.selectedBy cw := by
  cases i <;> decide

/-- The canonical words of R68's table are those that are their own canonical spelling. -/
theorem canonical_eq_self_iff : ∀ cw : CommandWord,
    canonical cw = cw ↔ cw.toNat ∈ [0x00, 0x01, 0x03, 0x04, 0x05, 0x07, 0x0C, 0x0D, 0x0F, 0x10] := by
  decide

/-- Settles O4: the rows are compared with the decoder for each command, and a word is what the encoder gives for its own
decoding iff it is its own canonical spelling. -/
theorem decodeFollowsTheTable : Obligations.DecodeFollowsTheTable := by
  refine fun cw => ⟨decode_of_rst, fun h => ?_, fun i => has_decode_eq_selectedBy i cw, ?_⟩
  · rcases decode_cases cw with ⟨hrst, -⟩ | ⟨-, hpair⟩
    · cases h.symm.trans hrst
    · exact hpair
  · rw [encode_decode, canonical_eq_self_iff]

/-- Settles O5, by decoding each of the nine words. -/
theorem sampleWordsDecode : Obligations.SampleWordsDecode := by
  unfold Obligations.SampleWordsDecode
  decide

end Sys2Proof
end

section
/-! What a step reads of the ports (R61, R65, R69): the decoded commands, the two status tests, the fill value of a `NEW`
and the data of a store, and nothing else; and the proofs of O7 and O27. -/

namespace Sys2Proof.Machine

/-- All a cycle of a write-side and a read-side command can answer, in any state of an existing instance. -/
theorem step_eq_of_pair {s : State} {w r : Instr} (hp : s.params.wf = true) (hd : decode s.ports.cw = .pair w r)
    (hw : w.format = .w) (hr : r.format = .r) :
    step s =
      if (s.stores w = true → (s.storage.read s.wc).isSome = true) ∧
          (s.delivers r = true → (s.storage.read s.rc).isSome = true)
      then .next (s.afterPair w r) else .fault .noSuchSlot := by
  split
  · next hslots =>
    obtain ⟨hstore, hdeliver⟩ := hslots
    rw [step, runCycle, if_pos hp, hd]
    exact endCycle_pair s hw hr hstore hdeliver
  · next hslots =>
    cases h : step s with
    | next t =>
      obtain ⟨-, ⟨hd', -⟩ | ⟨w', r', hd', -, -, -, hstore, hdeliver⟩⟩ := step_cases h
      · simp [hd] at hd'
      · cases hd.symm.trans hd'
        exact absurd ⟨hstore, hdeliver⟩ hslots
    | fault f => cases f; rfl
    | refused e => simp [((step_refused_iff s e).mp h).2] at hp

theorem step_of_not_wf {s : State} (hp : s.params.wf = false) : step s = .refused .noInstance :=
  (step_refused_iff s _).mpr ⟨rfl, hp⟩

/-- Other port values give the same step where they agree on all that a cycle reads. -/
theorem step_withPorts {s : State} {i : Inputs} (hcw : decode i.cw = decode s.ports.cw)
    (hfull : State.fullO { s with ports := i } = s.fullO) (hempty : State.emptyO { s with ports := i } = s.emptyO)
    (hfill : s.presents .new = true → i.fill_i = s.ports.fill_i)
    (hdata : ∀ w, s.presents w = true → s.stores w = true → i.wr_data_i = s.ports.wr_data_i) :
    step { s with ports := i } = step s := by
  cases hp : s.params.wf with
  | false => rw [step_of_not_wf hp, step_of_not_wf (s := { s with ports := i }) hp]
  | true =>
    rcases decode_cases s.ports.cw with ⟨-, hd⟩ | ⟨-, w, r, hd, hw, hr⟩
    · have hnew : State.afterNew { s with ports := i } = s.afterNew := by
        simp only [State.afterNew, hfull, hempty, hfill (by simp [State.presents_sys hd])]; rfl
      rw [step_new hp hd, step_new (s := { s with ports := i }) hp (hcw.trans hd), hnew]
    · have hstores : State.stores { s with ports := i } w = s.stores w := by rw [State.stores, hfull, State.stores]
      have hdelivers : State.delivers { s with ports := i } r = s.delivers r := by
        rw [State.delivers, hempty, State.delivers]
      have hstorage : State.storageAfter { s with ports := i } w = s.storageAfter w := by
        rw [State.storageAfter, State.storageAfter, hstores]
        split
        · next hstore => rw [hdata w (by simp [State.presents_w hd hr hw]) hstore]
        · rfl
      have hpair : State.afterPair { s with ports := i } w r = s.afterPair w r := by
        simp only [State.afterPair, State.wcAfter, State.rcAfter, State.readResult, hstorage, hstores, hdelivers, hfull,
          hempty]
        rfl
      rw [step_eq_of_pair hp hd hw hr, step_eq_of_pair (s := { s with ports := i }) hp (hcw.trans hd) hw hr, hpair,
        hstores, hdelivers]

theorem State.Inv.setCommand {s : State} (h : s.Inv) (cw : CommandWord) : (s.setCommand cw).Inv :=
  h.withPorts h.ports

theorem State.Inv.exists_step {s : State} (h : s.Inv) : ∃ t, step s = .next t := by
  rcases decode_cases s.ports.cw with ⟨-, hd⟩ | ⟨-, w, r, hd, hw, hr⟩
  · exact ⟨_, step_new h.params hd⟩
  · exact ⟨_, step_pair h hd hw hr⟩

/-- Settles O7: a canonical spelling decodes as the word itself, and the step reads the word only through its decoding. -/
theorem nonCanonicalWordsHaveNoEffectOfTheirOwn : Obligations.NonCanonicalWordsHaveNoEffectOfTheirOwn := by
  refine ⟨fun cw => ⟨decode_of_rst, fun hrst hen => ?_, fun hrst hen => ?_⟩, fun _ => canonical_encode, fun s => ?_,
    fun s h cw => (h.setCommand cw).exists_step⟩
  · have hidle : decodeW (cw.extractLsb' 0 2) = .wnop := decodeW_of_not_enabled (by simpa using hen)
    simp [decode_of_not_rst hrst, hidle, Cycle.has, Cycle.commands]
  · have hidle : decodeR (cw.extractLsb' 2 2) = .rnop := decodeR_of_not_enabled (by simpa using hen)
    simp [decode_of_not_rst hrst, hidle, Cycle.has, Cycle.commands]
  · exact step_withPorts (decode_canonical _) rfl rfl (fun _ => rfl) (fun _ _ _ => rfl)

/-- Which commands store: the two of R66. -/
theorem State.stores_iff (s : State) (w : Instr) :
    s.stores w = true ↔ w = .writeUnchecked ∨ (w = .write ∧ s.fullO = false) := by
  simp [State.stores]

/-- Settles O27: in each clause the port that changes is none that the cycle reads. -/
theorem unusedOperandPortsAreIgnored : Obligations.UnusedOperandPortsAreIgnored := by
  refine fun s v x y => ⟨fun hnew => ?_, fun hunchecked hfull => ?_, fun hdirect => ?_⟩
  · exact step_withPorts rfl rfl rfl (fun h => by simp [hnew] at h) (fun _ _ _ => rfl)
  · refine step_withPorts rfl rfl rfl (fun _ => rfl) (fun w hpresents hstores => ?_)
    rcases (s.stores_iff w).mp hstores with rfl | ⟨rfl, hroom⟩
    · simp [hunchecked] at hpresents
    · simp [hfull hpresents] at hroom
  · refine step_withPorts rfl ?_ ?_ (fun _ => rfl) (fun _ _ _ => rfl)
    · simp [State.fullO, State.rv, hdirect]
    · simp [State.emptyO, State.wv, hdirect]

end Sys2Proof.Machine
end

section
/-! The outputs of a cycle (R66, R67): an equation for each output bit in terms of what is presented and of the two status
tests, and the proofs of O22 and O23. -/

namespace Sys2Proof.Machine

/-- R67: every cycle drives the status and pointer outputs from the state before the edge. -/
theorem step_status_outputs {s t : State} (h : step s = .next t) :
    t.out.full_o = s.fullO ∧ t.out.empty_o = s.emptyO ∧ t.out.wptr_o = s.wc ∧ t.out.rptr_o = s.rc := by
  obtain ⟨-, ⟨-, rfl⟩ | ⟨w, r, -, -, -, rfl, -, -⟩⟩ := step_cases h <;> exact ⟨rfl, rfl, rfl, rfl⟩

/-- R66: a cycle stores iff it presents `WRITE_UNCHECKED`, or `WRITE` while `full_o = 0`. -/
theorem step_wr_ack_o {s t : State} (h : step s = .next t) :
    t.out.wr_ack_o = (s.presents .writeUnchecked || (s.presents .write && !s.fullO)) := by
  obtain ⟨-, ⟨hd, rfl⟩ | ⟨w, r, hd, -, hr, rfl, -, -⟩⟩ := step_cases h
  · simp [State.presents_sys hd, State.afterNew]
  · rw [State.presents_w hd hr rfl, State.presents_w hd hr rfl]
    simp [State.afterPair, State.stores, Bool.beq_eq_decide_eq, eq_comm]

/-- R66: a cycle delivers iff it presents a read command while `empty_o = 0`. -/
theorem step_rd_valid_o {s t : State} (h : step s = .next t) :
    t.out.rd_valid_o = (s.presentsRead && !s.emptyO) := by
  obtain ⟨-, ⟨hd, rfl⟩ | ⟨w, r, hd, hw, -, rfl, -, -⟩⟩ := step_cases h
  · simp [State.presentsRead, State.presents_sys hd, State.afterNew]
  · rw [State.presentsRead, State.presents_r hd hw rfl, State.presents_r hd hw rfl]
    simp [State.afterPair, State.delivers, Bool.beq_eq_decide_eq, eq_comm]

/-- R66: `rd_data_o` shows the slot at the read cursor before the edge in a cycle that delivers. -/
theorem step_rd_data_o {s t : State} (h : step s = .next t) (hvalid : t.out.rd_valid_o = true) :
    s.storage.read s.rc = some t.out.rd_data_o := by
  obtain ⟨-, ⟨-, rfl⟩ | ⟨w, r, -, -, -, rfl, -, hslot⟩⟩ := step_cases h
  · cases hvalid
  · obtain ⟨v, hv⟩ := Option.isSome_iff_exists.mp (hslot hvalid)
    have hdeliver : s.delivers r = true := hvalid
    simp [State.afterPair, State.readResult, hdeliver, hv]

/-- A cycle holds one write-side command. -/
theorem State.presents_writeUnchecked_of_write {s : State} (h : s.presents .write = true) :
    s.presents .writeUnchecked = false := by
  rcases decode_cases s.ports.cw with ⟨-, hd⟩ | ⟨-, w, r, hd, -, hr⟩
  · simp [State.presents_sys hd] at h
  · rw [State.presents_w hd hr rfl, decide_eq_true_iff] at h
    simp [State.presents_w (i := .writeUnchecked) hd hr rfl, ← h]

/-- Settles O22, from the equations of the two result bits. -/
theorem resultOutputs : Obligations.ResultOutputs := by
  refine fun s t h => ⟨?_, ?_, step_rd_data_o h⟩
  · simp [step_wr_ack_o h, State.fullO, or_comm]
  · simp [step_rd_valid_o h, State.presentsRead, State.emptyO]

/-- Settles O23: the status outputs are the two tests themselves, and the result bits of `WRITE` and of the read commands
are decided by them. -/
theorem statusOutputs : Obligations.StatusOutputs := by
  intro s t h
  obtain ⟨hfull, hempty, hwptr, hrptr⟩ := step_status_outputs h
  refine ⟨hfull, hempty, hwptr, hrptr, fun hdirect => ⟨?_, ?_⟩, fun hwrite => ?_, fun hread => ?_⟩
  · rw [hfull, State.fullO, State.rv_direct hdirect, State.isFull]
  · rw [hempty, State.emptyO, State.wv_direct hdirect, State.isEmpty]
  · simp [step_wr_ack_o h, hfull, hwrite, State.presents_writeUnchecked_of_write hwrite]
  · simp [step_rd_valid_o h, hempty, hread]

end Sys2Proof.Machine
end

section
/-! Where an element comes from (R80, R102, R169): in `DIRECT` mode a cycle treats the buffer as a queue or, by an overrun,
empties it; so the unread run holds only what the run has stored, and what is delivered stood in it. The proof of O48. -/

namespace Sys2Proof.Machine

/-! ## One cycle -/

theorem State.unread_of_isEmpty {s : State} (h : s.isEmpty = true) : s.unread = [] := by
  rw [s.unread_eq, s.occ_eq, s.isEmpty_iff.mp h, ahead_self, slotRun_zero]

/-- Slot `rc` begins the unread run. -/
theorem State.Inv.mem_unread_of_read_rc {s : State} (h : s.Inv) (hne : s.isEmpty = false) {v : Elem}
    (hv : s.storage.read s.rc = some v) : v ∈ s.unread := by
  have hocc : s.occ ≠ 0 := fun hzero => by simp [h.isEmpty_iff_occ.mpr hzero] at hne
  exact List.mem_filterMap.mpr
    ⟨0, List.mem_range.mpr (Nat.pos_of_ne_zero hocc), by rw [Nat.add_zero, Nat.mod_eq_of_lt h.rc_lt, hv]⟩

/-- R102: a store into a full buffer with no delivery beside it brings the write cursor onto the read cursor. -/
theorem State.isEmpty_afterPair_of_overrun {s : State} {w r : Instr} (hfull : s.isFull = true) (hst : s.stores w = true)
    (hdel : s.delivers r = false) : (s.afterPair w r).isEmpty = true := by
  have hrc : s.rcAfter r = s.rc := by simp [State.rcAfter, hdel]
  have hwc : s.wcAfter w = adv s.params.S s.wc := if_pos hst
  exact (State.isEmpty_iff _).mpr (hrc.trans (hwc.trans (s.isFull_iff.mp hfull)).symm)

/-- In `DIRECT` mode a cycle that is not orderly is an overrun. -/
theorem State.orderly_or_isEmpty_afterPair {s : State} (hdirect : s.params.viewMode = .direct) (w r : Instr) :
    Orderly s (s.afterPair w r) ∨ (s.afterPair w r).isEmpty = true := by
  by_cases hover : s.isFull = true ∧ s.stores w = true ∧ s.delivers r = false
  · obtain ⟨hfull, hst, hdel⟩ := hover
    exact Or.inr (State.isEmpty_afterPair_of_overrun hfull hst hdel)
  · refine Or.inl ⟨fun (hst : s.stores w = true) => ?_, fun (hdel : s.delivers r = true) => ?_⟩
    · cases hdel : s.delivers r with
      | true => exact Or.inr hdel
      | false => exact Or.inl (by simpa [hst, hdel] using hover)
    · rw [State.delivers_direct hdirect] at hdel
      simpa using (Bool.and_eq_true_iff.mp hdel).2

/-- What is unread after a cycle are the last of what was unread and what is stored. -/
theorem State.Inv.unread_afterPair_suffix {s : State} (h : s.Inv) (hdirect : s.params.viewMode = .direct) (w r : Instr) :
    (s.afterPair w r).unread <:+ s.unread ++ if s.stores w then [s.ports.wr_data_i] else [] := by
  rcases State.orderly_or_isEmpty_afterPair hdirect w r with hord | hempty
  · exact hord.unread_afterPair h ▸ List.suffix_append ..
  · exact State.unread_of_isEmpty hempty ▸ List.nil_suffix

/-! ## A run -/

variable {σ : Nat → State} {n t : Nat}

theorem Run.unread_suffix_accepted (hrun : Run σ n) (h : (σ 0).Inv) (hdirect : (σ 0).params.viewMode = .direct)
    (hnew : NoNew σ n) (hempty : (σ 0).isEmpty = true) (ht : t ≤ n) : (σ t).unread <:+ accepted σ t := by
  induction t with
  | zero => exact State.unread_of_isEmpty hempty ▸ List.nil_suffix
  | succ t ih =>
    obtain ⟨w, r, -, -, -, hnext⟩ := hrun.afterPair hnew ht
    have hmode : (σ t).params.viewMode = .direct := hrun.params (Nat.le_of_lt ht) ▸ hdirect
    have hcycle := (hrun.inv h (Nat.le_of_lt ht)).unread_afterPair_suffix hmode w r
    have hstored : stored σ t = (σ t).stores w := by rw [stored, hnext]; rfl
    rw [hnext, accepted_succ, hstored]
    exact hcycle.trans (List.suffix_append_self_iff.mpr (ih (Nat.le_of_lt ht)))

/-- Settles O48: the unread run stays a suffix of what has been stored, overruns included, and a delivery takes its first
element. -/
theorem onlyStoredElementsAreDelivered : Obligations.OnlyStoredElementsAreDelivered := by
  intro σ n hrun h hdirect hwc hrc hnew
  have hsuffix : ∀ {t}, t ≤ n → (σ t).unread <:+ accepted σ t := fun ht =>
    hrun.unread_suffix_accepted h hdirect hnew ((State.isEmpty_iff _).mpr (hrc.trans hwc.symm)) ht
  refine ⟨hsuffix le_rfl, fun t ht hgave => (hsuffix (Nat.le_of_lt ht)).mem ?_⟩
  have hmode : (σ t).params.viewMode = .direct := hrun.params (Nat.le_of_lt ht) ▸ hdirect
  have hne : (σ t).isEmpty = false := by
    rw [State.isEmpty, ← State.wv_direct hmode]
    exact hrun.emptyO_of_gave hnew ht hgave
  exact (hrun.inv h (Nat.le_of_lt ht)).mem_unread_of_read_rc hne (step_rd_data_o (hrun t ht) hgave)

end Sys2Proof.Machine
end

section
/-! `NEW` (R80): which words are it, its effect as a command and as a cycle, and the proof of O8. -/

namespace Sys2Proof.Machine

theorem decode_has_new (cw : CommandWord) : (decode cw).has .new = cw.getLsbD 4 := by
  rcases decode_cases cw with ⟨hrst, hd⟩ | ⟨hrst, w, r, hd, hw, hr⟩
  · rw [hd, hrst]; rfl
  · have hwNew : w ≠ .new := by rintro rfl; cases hw
    have hrNew : r ≠ .new := by rintro rfl; cases hr
    rw [hd, hrst]
    simp [Cycle.has, Cycle.commands, hwNew.symm, hrNew.symm]

theorem State.afterNew_constructed (s : State) : s.afterNew.Constructed s.ports.fill_i :=
  State.constructed_of_filled rfl rfl rfl

/-- Settles O8: as a command `NEW` reads the parameters and `fill_i` only, so it answers in every state; as a cycle it ends
in a constructed state and drives the status outputs from the state before the edge, as every cycle does (R67). In
`EXTERNAL` mode these compare with the views, the model's reading (log entry 14). -/
theorem newConstructsTheInstance : Obligations.NewConstructsTheInstance := by
  refine ⟨decode_has_new, fun s => ?_, fun s hp hrst => ?_⟩
  · exact ⟨_, rfl, rfl, rfl, Memory.read_filled _ _, rfl, rfl, rfl, rfl, rfl, rfl, rfl, rfl, rfl, rfl⟩
  · have hstep : step s = .next s.afterNew := step_new hp (decode_of_rst hrst)
    exact ⟨_, hstep, rfl, s.afterNew_constructed, rfl, rfl, step_status_outputs hstep⟩

end Sys2Proof.Machine
end

section
/-! The checked commands (R90, R91): what a store and a delivery do to the storage and to the occupancy, and the proofs of
O9 and O10. -/

namespace Sys2Proof

/-- An advance of the far cursor is an advance of the distance. -/
theorem ahead_adv_right {S r w : Nat} (hr : r < S) (hw : w < S) : ahead S r (adv S w) = adv S (ahead S r w) := by
  have hlt := ahead_lt hr hw
  rw [ahead_adv_to hr hw, adv]
  split <;> split <;> omega

namespace Machine

/-! ## A store -/

theorem decode_has_write : ∀ cw : CommandWord,
    (decode cw).has .write = (!cw.getLsbD 4 && !cw.getLsbD 1 && cw.getLsbD 0) := by
  decide

theorem State.stores_write (s : State) : s.stores .write = !s.fullO := by simp [State.stores]

theorem State.Inv.read_afterWriteSide {s : State} (h : s.Inv) {w : Instr} (hst : s.stores w = true) (a : Nat) :
    (s.afterWriteSide w).storage.read a = if a = s.wc then some s.ports.wr_data_i else s.storage.read a := by
  show (s.storageAfter w).read a = _
  rw [State.storageAfter, if_pos hst, Memory.read_put_of_wf h.storage h.wc_lt]

/-- R116: a store advances the occupancy as it advances the write cursor. -/
theorem State.Inv.occ_afterWriteSide {s : State} (h : s.Inv) {w : Instr} (hst : s.stores w = true) :
    (s.afterWriteSide w).occ = adv s.params.S s.occ := by
  show ahead s.params.S s.rc (s.wcAfter w) = adv s.params.S (ahead s.params.S s.rc s.wc)
  rw [State.wcAfter, if_pos hst, ahead_adv_right h.rc_lt h.wc_lt]

/-- Settles O9: `fullO` is the test that R90 names. In `DIRECT` mode it is the full condition, so an accepted `WRITE`
finds an occupancy other than `S - 1`, which does not wrap. -/
theorem writeStoresUnlessFull : Obligations.WriteStoresUnlessFull := by
  refine ⟨decode_has_write, fun s hfull => ?_, fun s h hroom => ?_, fun s h hone hrv => ?_, fun s h htwo hdirect => ?_⟩
  · have hexec : exec .write s = .next (s.setWrAck false) := if_pos (s.fullO_iff.mpr hfull)
    obtain ⟨hread, hcommon, -, -⟩ := writeSideFrame .write s _ rfl hexec
    exact ⟨_, hexec, rfl, rfl, fun _ => rfl, hread, hcommon⟩
  · have hst : s.stores .write = true := by simpa [State.stores_write, State.fullO] using hroom
    have hexec := exec_eq_afterWriteSide (w := .write) rfl h.read_wc_isSome
    have hwc : (s.afterWriteSide .write).wc = adv s.params.S s.wc := if_pos hst
    have hocc := h.occ_afterWriteSide hst
    obtain ⟨hread, hcommon, -, -⟩ := writeSideFrame .write s _ rfl hexec
    refine ⟨_, hexec, hst, hwc, h.read_afterWriteSide hst, hocc.trans (adv_eq_mod h.occ_lt), fun hdirect => ?_,
      hread, hcommon⟩
    rw [State.rv_direct hdirect] at hroom
    have hnotFull : s.occ ≠ s.params.S - 1 := fun hlast => hroom (s.isFull_iff.mp (h.isFull_iff_occ.mpr hlast))
    have hpos := h.pos
    have hocc' : (s.afterWriteSide .write).occ = s.occ + 1 := hocc.trans (if_neg (by omega))
    refine ⟨hocc', ?_⟩
    rw [State.isEmpty, hwc]
    exact beq_false_of_ne hroom.symm
  · have hadv : adv s.params.S s.wc < s.params.S := adv_lt h.wc_lt
    omega
  · have hlt := h.occ_lt
    rw [State.rv_direct hdirect, Ne, ← s.isFull_iff, h.isFull_iff_occ, h.isEmpty_iff_occ]
    omega

/-! ## A delivery -/

theorem decode_has_read : ∀ cw : CommandWord,
    (decode cw).has .read = (!cw.getLsbD 4 && !cw.getLsbD 3 && cw.getLsbD 2) := by
  decide

theorem State.delivers_read (s : State) : s.delivers .read = !s.emptyO := by simp [State.delivers]

theorem State.Inv.rd_data_o_afterReadSide {s : State} (h : s.Inv) {r : Instr} (hdel : s.delivers r = true) :
    s.storage.read s.rc = some (s.afterReadSide r).out.rd_data_o := by
  obtain ⟨v, hv⟩ := Option.isSome_iff_exists.mp h.read_rc_isSome
  show _ = some ((s.readResult r).getD _)
  rw [State.readResult, if_pos hdel, hv, Option.getD_some]

/-- R116: a delivery of an unread element lowers the occupancy by one. -/
theorem State.Inv.occ_afterReadSide {s : State} (h : s.Inv) {r : Instr} (hdel : s.delivers r = true)
    (hne : s.rc ≠ s.wc) : (s.afterReadSide r).occ + 1 = s.occ := by
  have hpos : ahead s.params.S s.rc s.wc ≠ 0 := (ahead_eq_zero h.rc_lt).not.mpr hne
  show ahead s.params.S (s.rcAfter r) s.wc + 1 = ahead s.params.S s.rc s.wc
  rw [State.rcAfter, if_pos hdel, ahead_adv_from h.wc_lt, if_neg hne]
  omega

/-- Settles O10: `emptyO` is the test that R91 names. In `DIRECT` mode it is the empty condition, so a delivering `READ`
finds different cursors, and they stay different when both advance. -/
theorem readDeliversUnlessEmpty : Obligations.ReadDeliversUnlessEmpty := by
  refine ⟨decode_has_read, fun s hempty => ?_, fun s h hunread => ?_, fun s h hone hwv => ?_⟩
  · have hexec : exec .read s = .next (s.setRdResult none) := if_pos (s.emptyO_iff.mpr hempty)
    obtain ⟨hwrite, hcommon, -⟩ := readSideFrame .read s _ rfl hexec
    exact ⟨_, hexec, rfl, rfl, hwrite, hcommon⟩
  · have hdel : s.delivers .read = true := by simpa [State.delivers_read, State.emptyO] using hunread
    have hexec := exec_eq_afterReadSide (r := .read) rfl h.read_rc_isSome
    have hrc : (s.afterReadSide .read).rc = adv s.params.S s.rc := if_pos hdel
    have hdata := h.rd_data_o_afterReadSide hdel
    have hvalid : (s.afterReadSide .read).out.rd_valid_o = true := by
      show (s.readResult .read).isSome = true
      rw [State.readResult, if_pos hdel, hdata, Option.isSome_some]
    obtain ⟨hwrite, hcommon, -⟩ := readSideFrame .read s _ rfl hexec
    refine ⟨_, hexec, hvalid, hdata, hrc, fun hdirect => ?_, hwrite, hcommon⟩
    rw [State.wv_direct hdirect] at hunread
    refine ⟨h.occ_afterReadSide hdel hunread, ?_⟩
    rw [State.isFull, hrc]
    exact beq_false_of_ne fun heq => hunread (adv_injective _ heq).symm
  · have hrc := h.rc_lt
    omega

end Machine
end Sys2Proof
end

section
/-! R92: how long a delivered slot keeps its element under a producer that uses only `WRITE`, in `DIRECT` mode, and the
proof of O51. The slot just behind the read cursor is the one where the write cursor stands when the buffer is full, and
there every `WRITE` is rejected. -/

namespace Sys2Proof.Machine

/-! ## The write-side command of a cycle -/

theorem State.decode_of_presents_w {s : State} {i : Instr} (hi : i.format = .w) (h : s.presents i = true) :
    ∃ r, decode s.ports.cw = .pair i r ∧ r.format = .r := by
  rcases decode_cases s.ports.cw with ⟨-, hd⟩ | ⟨-, w, r, hd, -, hr⟩
  · rw [State.presents_sys hd, decide_eq_true_iff] at h
    subst h
    cases hi
  · rw [State.presents_w hd hr hi, decide_eq_true_iff] at h
    exact ⟨r, h ▸ hd, hr⟩

/-- A cycle whose write side holds `WRITE` or `WNOP` holds neither `NEW` nor `WRITE_UNCHECKED`. -/
theorem State.checked_of_presents {s : State} (h : s.presents .write = true ∨ s.presents .wnop = true) :
    s.presents .new = false ∧ s.presents .writeUnchecked = false := by
  rcases h with h | h
  all_goals
    obtain ⟨r, hd, hr⟩ := State.decode_of_presents_w rfl h
    exact ⟨State.presents_new_pair hd rfl hr, State.presents_w hd hr rfl⟩

/-! ## The slots of a run -/

variable {σ : Nat → State} {n t : Nat}

/-- A cycle changes no slot but the one it stores into. -/
theorem Run.read_succ (hrun : Run σ n) (hnew : NoNew σ n) (ht : t < n) {a : Nat}
    (hmiss : stored σ t = true → a ≠ (σ t).wc) : (σ (t + 1)).storage.read a = (σ t).storage.read a := by
  obtain ⟨w, r, -, -, -, hnext⟩ := hrun.afterPair hnew ht
  rw [stored, hnext] at hmiss
  rw [hnext]
  show ((σ t).storageAfter w).read a = _
  rw [State.storageAfter]
  split
  · next hst => rw [Memory.read_put, if_neg (hmiss hst)]
  · rfl

/-- In `DIRECT` mode a `WRITE` never stores into the slot just behind the read cursor. -/
theorem Run.ne_wc_of_stored (hrun : Run σ n) (hnew : NoNew σ n) (hchecked : CheckedOnly σ n) (ht : t < n)
    (hdirect : (σ t).params.viewMode = .direct) {a : Nat} (hbehind : (σ t).rc = adv (σ t).params.S a)
    (hstored : stored σ t = true) : a ≠ (σ t).wc := by
  rintro rfl
  rcases hrun.of_stored hnew ht hstored with hunchecked | hroom
  · cases (hchecked t ht).symm.trans hunchecked
  · have hfull : (σ t).fullO = true := (σ t).fullO_iff.mpr (by rw [State.rv_direct hdirect, hbehind])
    cases hroom.symm.trans hfull

/-- Settles O51: a delivery leaves the read cursor just after the delivered slot, where it stays until the next one, and a
`WRITE` does not store into the slot just behind the read cursor. In the delivering cycle itself the cursors differ. -/
theorem deliveredSlotKeepsItsElement : Obligations.DeliveredSlotKeepsItsElement := by
  intro σ n hrun h hdirect hgave hproducer hquiet
  have hnew : NoNew σ (n + 1) := fun t ht => (State.checked_of_presents (hproducer t (by omega))).1
  have hchecked : CheckedOnly σ (n + 1) := fun t ht => (State.checked_of_presents (hproducer t (by omega))).2
  have hkept : ∀ t, t ≤ n → (σ (t + 1)).storage.read (σ 0).rc = (σ 0).storage.read (σ 0).rc ∧
      (σ (t + 1)).rc = adv (σ 0).params.S (σ 0).rc := by
    intro t
    induction t with
    | zero =>
      intro ht
      have hempty := hrun.emptyO_of_gave hnew (by omega) hgave
      have hne : (σ 0).rc ≠ (σ 0).wc := fun heq => by
        simp [(σ 0).emptyO_iff.mpr (heq.trans (State.wv_direct hdirect).symm)] at hempty
      refine ⟨hrun.read_succ hnew (by omega) fun _ => hne, ?_⟩
      rw [hrun.rc_succ hnew (by omega), if_pos hgave]
    | succ t ih =>
      intro ht
      obtain ⟨hslot, hrc⟩ := ih (by omega)
      have hparams := hrun.params (t := t + 1) (by omega)
      have hmiss := hrun.ne_wc_of_stored hnew hchecked (t := t + 1) (by omega) (hparams ▸ hdirect) (hparams ▸ hrc)
      refine ⟨(hrun.read_succ hnew (by omega) hmiss).trans hslot, ?_⟩
      rw [hrun.rc_succ hnew (by omega), hquiet (t + 1) (by omega) ht]
      exact hrc
  exact hkept n le_rfl

end Sys2Proof.Machine
end

section
/-! Overruns (R102, R103): one overrun cycle empties the buffer, so after a number of unchecked writes exactly the last part
lap of them is unread, and the reads that follow deliver it in order; the proofs of O46 and O47. -/

namespace Sys2Proof.Machine

/-! ## An overrun cycle -/

/-- R103, with the consumer's test as `empty_o` shows it. -/
theorem State.overrun_iff (s : State) : s.overrun = true ↔
    s.presents .writeUnchecked = true ∧ s.isFull = true ∧ (s.presentsRead && !s.emptyO) = false := by
  simp [State.overrun, State.emptyO, and_assoc, imp_iff_not_or]

/-- An overrun cycle is a `WRITE_UNCHECKED` into a full buffer beside a read side that delivers nothing. -/
theorem State.Inv.step_of_overrun {s t : State} (h : s.Inv) (hstep : step s = .next t) (hover : s.overrun = true) :
    s.isFull = true ∧ ∃ r, s.delivers r = false ∧ t = s.afterPair .writeUnchecked r := by
  obtain ⟨hunchecked, hfull, hread⟩ := s.overrun_iff.mp hover
  obtain ⟨r, hd, hr⟩ := State.decode_of_presents_w rfl hunchecked
  have hnext : t = s.afterPair .writeUnchecked r := Host.Outcome.next.inj (hstep.symm.trans (step_pair h hd rfl hr))
  have hvalid : t.out.rd_valid_o = false := (step_rd_valid_o hstep).trans hread
  rw [hnext] at hvalid
  exact ⟨hfull, r, hvalid, hnext⟩

/-- Settles O46: the store brings the write cursor onto the read cursor, which no delivery moves, so the `S - 1` elements of
the full buffer are unread no longer; the store itself reaches the sentinel slot only. -/
theorem overrunLosesAWholeLap : Obligations.OverrunLosesAWholeLap := by
  intro s t h hstep hover
  obtain ⟨hfull, r, hdel, rfl⟩ := h.step_of_overrun hstep hover
  have hst : s.stores .writeUnchecked = true := rfl
  have hrc : (s.afterPair .writeUnchecked r).rc = s.rc := if_neg (ne_true_of_eq_false hdel)
  have hempty := State.isEmpty_afterPair_of_overrun hfull hst hdel
  have hread := h.read_afterWriteSide hst
  exact ⟨hrc, ((State.isEmpty_iff _).mp hempty).symm, State.unread_of_isEmpty hempty,
    h.unread_length.trans (h.isFull_iff_occ.mp hfull), (hread _).trans (if_pos rfl),
    fun a ha => (hread a).trans (if_neg ha), hst, hdel⟩

/-! ## What a run stores and delivers -/

variable {σ : Nat → State} {n k m t : Nat}

theorem accepted_of_stored (h : ∀ t, t < n → stored σ t = true) :
    accepted σ n = (List.range n).map fun t => (σ t).ports.wr_data_i :=
  List.filterMap_eq_map_iff_forall_eq_some.mpr fun t ht => if_pos (h t (List.mem_range.mp ht))

theorem accepted_eq_nil (h : ∀ t, t < n → stored σ t = false) : accepted σ n = [] :=
  List.filterMap_eq_nil_iff.mpr fun t ht => if_neg (ne_true_of_eq_false (h t (List.mem_range.mp ht)))

theorem delivered_eq_nil (h : ∀ t, t < n → gave σ t = false) : delivered σ n = [] :=
  List.filterMap_eq_nil_iff.mpr fun t ht => if_neg (ne_true_of_eq_false (h t (List.mem_range.mp ht)))

/-- The deliveries of a run are those of its first `k` cycles and then those of the run that begins after them. -/
theorem delivered_add (σ : Nat → State) (k m : Nat) :
    delivered σ (k + m) = delivered σ k ++ delivered (fun t => σ (k + t)) m := by
  rw [delivered, List.range_add, List.filterMap_append, List.filterMap_map]
  rfl

/-! ## The parts of a run -/

theorem Run.drop (hrun : Run σ (k + m)) : Run (fun t => σ (k + t)) m := fun t ht => hrun (k + t) (by omega)

theorem NoNew.drop (hnew : NoNew σ (k + m)) : NoNew (fun t => σ (k + t)) m := fun t ht => hnew (k + t) (by omega)

/-- In `DIRECT` mode only what is unread is delivered. -/
theorem Run.isEmpty_of_gave_direct (hrun : Run σ n) (hnew : NoNew σ n) (ht : t < n)
    (hdirect : (σ t).params.viewMode = .direct) (hgave : gave σ t = true) : (σ t).isEmpty = false := by
  rw [State.isEmpty, ← State.wv_direct hdirect]
  exact hrun.emptyO_of_gave hnew ht hgave

/-- In `DIRECT` mode a run that begins with an empty buffer leaves the last `occ` elements stored unread, overruns
included. -/
theorem Run.unread_eq_drop_accepted (hrun : Run σ n) (h : (σ 0).Inv) (hdirect : (σ 0).params.viewMode = .direct)
    (hnew : NoNew σ n) (hempty : (σ 0).isEmpty = true) (ht : t ≤ n) :
    (σ t).unread = (accepted σ t).drop ((accepted σ t).length - (σ t).occ) := by
  rw [← (hrun.inv h ht).unread_length]
  exact List.suffix_iff_eq_drop.mp (hrun.unread_suffix_accepted h hdirect hnew hempty ht)

/-- In `DIRECT` mode a run that stores nothing delivers what is unread at its beginning, from the oldest on. -/
theorem Run.unread_eq_delivered_append (hrun : Run σ n) (h : (σ 0).Inv) (hdirect : (σ 0).params.viewMode = .direct)
    (hnew : NoNew σ n) (hquiet : ∀ t, t < n → stored σ t = false) : (σ 0).unread = delivered σ n ++ (σ n).unread := by
  have hord : ∀ t, t < n → Orderly (σ t) (σ (t + 1)) := fun t ht =>
    { room := fun hstored => absurd hstored (ne_true_of_eq_false (hquiet t ht))
      unread := hrun.isEmpty_of_gave_direct hnew ht (hrun.params (Nat.le_of_lt ht) ▸ hdirect) }
  rw [← hrun.fifo h hnew hord le_rfl, accepted_eq_nil hquiet, List.append_nil]

/-! ## Unchecked writes, then reads -/

theorem Run.stored_of_unchecked (hrun : Run σ n) (ht : t < n) (h : (σ t).presents .writeUnchecked = true) :
    stored σ t = true := by
  rw [stored, step_wr_ack_o (hrun t ht), h, Bool.true_or]

/-- R102: `k` stores and no delivery bring the cursors, from `0`, to `k mod S` and `0`. -/
theorem Run.cursors_of_stores_only (hrun : Run σ n) (h : (σ 0).Inv) (hnew : NoNew σ n) (hk : k ≤ n)
    (hwc : (σ 0).wc = 0) (hrc : (σ 0).rc = 0) (hstored : ∀ t, t < k → stored σ t = true)
    (hgave : ∀ t, t < k → gave σ t = false) :
    (σ k).wc = k % (σ 0).params.S ∧ (σ k).rc = 0 ∧ (σ k).occ = k % (σ 0).params.S := by
  have hwrites : writes σ k = k := by
    rw [← accepted_length, accepted_of_stored hstored, List.length_map, List.length_range]
  have hreads : reads σ k = 0 := by rw [← delivered_length, delivered_eq_nil hgave, List.length_nil]
  have hwc' : (σ k).wc = k % (σ 0).params.S := by rw [hrun.wc_eq h hnew hk, hwc, hwrites, Nat.zero_add]
  have hrc' : (σ k).rc = 0 := by rw [hrun.rc_eq h hnew hk, hrc, hreads, Nat.zero_mod]
  exact ⟨hwc', hrc', by simp [State.occ, hwc', hrc']⟩

/-- Settles O47: the `k` stores leave the occupancy `k mod S`, and what is unread are that many of the last elements stored;
the cycles after them only take from the front of it. -/
theorem uncheckedWritesKeepTheLastPartLap : Obligations.UncheckedWritesKeepTheLastPartLap := by
  intro σ k m hrun h hdirect hwc hrc hnew hwrite hquiet
  have hk : k ≤ k + m := Nat.le_add_right k m
  have hstored : ∀ t, t < k → stored σ t = true := fun t ht =>
    hrun.stored_of_unchecked (ht.trans_le hk) (hwrite t ht).1
  have hgave : ∀ t, t < k → gave σ t = false := fun t ht => (hwrite t ht).2
  obtain ⟨hwc', hrc', hocc⟩ := hrun.cursors_of_stores_only h hnew hk hwc hrc hstored hgave
  have haccepted := accepted_of_stored hstored
  have hunread : (σ k).unread = (accepted σ k).drop (k - k % (σ 0).params.S) := by
    rw [hrun.unread_eq_drop_accepted h hdirect hnew ((State.isEmpty_iff _).mpr (hrc.trans hwc.symm)) hk, hocc,
      haccepted, List.length_map, List.length_range]
  have hqueue : (σ k).unread = delivered σ (k + m) ++ (σ (k + m)).unread := by
    rw [delivered_add, delivered_eq_nil hgave, List.nil_append]
    exact hrun.drop.unread_eq_delivered_append (hrun.inv h hk) (hrun.params hk ▸ hdirect) hnew.drop
      fun t ht => hquiet (k + t) (Nat.le_add_right k t) (Nat.add_lt_add_left ht k)
  refine ⟨hwc', hrc', hocc, haccepted, hunread, ?_, fun hempty => ?_⟩
  · rw [← hunread, hqueue]
    exact List.prefix_append ..
  · rw [← hunread, hqueue, State.unread_of_isEmpty hempty, List.append_nil]

end Sys2Proof.Machine
end

section
/-! The unchecked commands (R100, R101) on every operand, and the proofs of O11 and O12. -/

namespace Sys2Proof.Machine

/-! ## `WRITE_UNCHECKED` -/

theorem decode_has_writeUnchecked : ∀ cw : CommandWord,
    (decode cw).has .writeUnchecked = (!cw.getLsbD 4 && cw.getLsbD 1 && cw.getLsbD 0) := by
  decide

/-- A write-side command alone keeps the invariant. -/
theorem State.Inv.afterWriteSide {s : State} (h : s.Inv) (w : Instr) : (s.afterWriteSide w).Inv where
  params := h.params
  storage := h.storageAfter_wf w
  elements := h.storageAfter_lt w
  wc_lt := State.wcAfter_lt h.wc_lt w
  rc_lt := h.rc_lt
  ports := h.ports
  env := h.env
  out := h.out

/-- Settles O11: `WRITE_UNCHECKED` stores with no test. With one slot the state it leaves, being one of the instance, has
both cursors on that slot. -/
theorem writeUncheckedAlwaysStores : Obligations.WriteUncheckedAlwaysStores := by
  refine ⟨decode_has_writeUnchecked, fun s h => ?_⟩
  have hst : s.stores .writeUnchecked = true := rfl
  have hexec := exec_eq_afterWriteSide (w := .writeUnchecked) rfl h.read_wc_isSome
  have hwc : (s.afterWriteSide .writeUnchecked).wc = adv s.params.S s.wc := rfl
  have hafter := h.afterWriteSide .writeUnchecked
  obtain ⟨hread, hcommon, -, -⟩ := writeSideFrame .writeUnchecked s _ rfl hexec
  refine ⟨_, hexec, hst, hwc, h.read_afterWriteSide hst, (h.occ_afterWriteSide hst).trans (adv_eq_mod h.occ_lt),
    fun hone => ⟨?_, hafter.isEmpty_and_isFull_iff.mpr hone⟩, hread, hcommon⟩
  exact Nat.lt_one_iff.mp (hone ▸ hafter.wc_lt)

/-! ## `READ_UNCHECKED` -/

theorem decode_has_readUnchecked : ∀ cw : CommandWord,
    (decode cw).has .readUnchecked = (!cw.getLsbD 4 && cw.getLsbD 3 && cw.getLsbD 2) := by
  decide

/-- R101: the same test, the same delivery. -/
theorem exec_readUnchecked_eq_read (s : State) : exec .readUnchecked s = exec .read s := rfl

/-- Settles O12: `READ_UNCHECKED` is `READ`, so it does what O10 says of `READ`. -/
theorem readUncheckedIsRead : Obligations.ReadUncheckedIsRead := by
  obtain ⟨-, hempty, hunread, -⟩ := readDeliversUnlessEmpty
  refine ⟨decode_has_readUnchecked, exec_readUnchecked_eq_read, hempty, fun s h hne => ?_⟩
  obtain ⟨t, hexec, hvalid, hdata, hrc, -, hwrite, hcommon⟩ := hunread s h hne
  exact ⟨t, hexec, hvalid, hdata, hrc, hwrite, hcommon⟩

end Sys2Proof.Machine
end

section
/-! The mode bits (R101, R104, R165): a cycle reads its two commands through `stores` and `delivers` only, in which the mode
bit of the read side does not occur, and that of the write side only beside `full_o`; the proof of O18. -/

namespace Sys2Proof

theorem decodeW_format : ∀ f : BitVec 2, (decodeW f).format = .w := by decide

theorem decodeR_format : ∀ f : BitVec 2, (decodeR f).format = .r := by decide

namespace Machine

/-! ## The two sides, in terms of the command bits (R115) -/

theorem State.stores_decodeW (s : State) (cw : CommandWord) :
    s.stores (decodeW (cw.extractLsb' 0 2)) = (cw.getLsbD 0 && (cw.getLsbD 1 || !s.fullO)) := by
  have hbits : (cw.extractLsb' 0 2).getLsbD 0 = cw.getLsbD 0 ∧ (cw.extractLsb' 0 2).getLsbD 1 = cw.getLsbD 1 := by simp
  rw [decodeW, hbits.1, hbits.2]
  cases cw.getLsbD 0 <;> cases cw.getLsbD 1 <;> simp [State.stores]

theorem State.delivers_decodeR (s : State) (cw : CommandWord) :
    s.delivers (decodeR (cw.extractLsb' 2 2)) = (cw.getLsbD 2 && !s.emptyO) := by
  have hbits : (cw.extractLsb' 2 2).getLsbD 0 = cw.getLsbD 2 ∧ (cw.extractLsb' 2 2).getLsbD 1 = cw.getLsbD 3 := by simp
  rw [decodeR, hbits.1, hbits.2]
  cases cw.getLsbD 2 <;> cases cw.getLsbD 3 <;> simp [State.delivers]

/-! ## Another command word with the same effect -/

theorem State.afterPair_congr {s : State} {w w' r r' : Instr} (hst : s.stores w' = s.stores w)
    (hdel : s.delivers r' = s.delivers r) : s.afterPair w' r' = s.afterPair w r := by
  simp only [State.afterPair, State.storageAfter, State.wcAfter, State.rcAfter, State.readResult, hst, hdel]

/-- A command word that stores and delivers as the present one does gives the same step. -/
theorem step_setCommand_congr {s : State} {cw : CommandWord} (hrst : s.ports.cw.getLsbD 4 = false)
    (hrst' : cw.getLsbD 4 = false)
    (hst : s.stores (decodeW (cw.extractLsb' 0 2)) = s.stores (decodeW (s.ports.cw.extractLsb' 0 2)))
    (hdel : s.delivers (decodeR (cw.extractLsb' 2 2)) = s.delivers (decodeR (s.ports.cw.extractLsb' 2 2))) :
    step (s.setCommand cw) = step s := by
  cases hp : s.params.wf with
  | false => rw [step_of_not_wf hp, step_of_not_wf (s := s.setCommand cw) hp]
  | true =>
    have hstep := step_eq_of_pair (s := s.setCommand cw) hp (decode_of_not_rst hrst') (decodeW_format _) (decodeR_format _)
    rw [step_eq_of_pair hp (decode_of_not_rst hrst) (decodeW_format _) (decodeR_format _), ← State.afterPair_congr hst hdel,
      ← hst, ← hdel]
    exact hstep

/-- Settles O18: the read side's mode bit decides nothing, and the write side's nothing while `full_o = 0`. -/
theorem variantLeavesNoTrace : Obligations.VariantLeavesNoTrace := by
  refine fun s hrst => ⟨step_setCommand_congr hrst ?_ ?_ ?_, fun hroom => step_setCommand_congr hrst ?_ ?_ ?_⟩
  · simpa using hrst
  · simp [State.stores_decodeW]
  · simp [State.delivers_decodeR]
  · simpa using hrst
  · simp [State.stores_decodeW, hroom]
  · simp [State.delivers_decodeR]

end Machine
end Sys2Proof
end

section
/-! `DIRECT` mode without an overrun (R116, R120, R121): every cycle stores where there is room and delivers what is unread,
so the buffer is a queue whose occupancy counts the transfers; the proofs of O41 and O44. -/

namespace Sys2Proof.Machine

/-! ## One cycle -/

theorem State.fullO_direct {s : State} (hdirect : s.params.viewMode = .direct) : s.fullO = s.isFull := by
  rw [State.fullO, State.rv_direct hdirect, State.isFull]

theorem State.emptyO_direct {s : State} (hdirect : s.params.viewMode = .direct) : s.emptyO = s.isEmpty := by
  rw [State.emptyO, State.wv_direct hdirect, State.isEmpty]

/-- R103: in `DIRECT` mode a cycle that is no overrun is orderly. -/
theorem step_orderly {s t : State} (h : step s = .next t) (hdirect : s.params.viewMode = .direct)
    (hover : s.overrun = false) : Orderly s t where
  room hack := by
    rw [step_wr_ack_o h, State.fullO_direct hdirect] at hack
    rw [step_rd_valid_o h]
    cases hfull : s.isFull with
    | false => exact .inl rfl
    | true =>
      have hunchecked : s.presents .writeUnchecked = true := by simpa [hfull] using hack
      by_contra hread
      have : s.overrun = true := s.overrun_iff.mpr ⟨hunchecked, hfull, by simpa using hread⟩
      simp [hover] at this
  unread hvalid := by
    rw [step_rd_valid_o h, State.emptyO_direct hdirect] at hvalid
    simpa using (Bool.and_eq_true_iff.mp hvalid).2

/-! ## A run -/

variable {σ : Nat → State} {n t : Nat}

theorem Run.fifo_of_noOverrun (hrun : Run σ n) (h : (σ 0).Inv) (hdirect : (σ 0).params.viewMode = .direct)
    (hnew : NoNew σ n) (hover : NoOverrun σ n) (ht : t ≤ n) :
    (σ 0).unread ++ accepted σ t = delivered σ t ++ (σ t).unread :=
  hrun.fifo h hnew (fun k hk => step_orderly (hrun k hk) (hrun.params hk.le ▸ hdirect) (hover k hk)) ht

/-- From an empty buffer the stores lead the deliveries by the occupancy. -/
theorem Run.writes_eq_reads_add_occ (hrun : Run σ n) (h : (σ 0).Inv) (hdirect : (σ 0).params.viewMode = .direct)
    (hnew : NoNew σ n) (hover : NoOverrun σ n) (hempty : (σ 0).isEmpty = true) (ht : t ≤ n) :
    writes σ t = reads σ t + (σ t).occ := by
  have hlength := congrArg List.length (hrun.fifo_of_noOverrun h hdirect hnew hover ht)
  simpa [State.unread_of_isEmpty hempty, accepted_length, delivered_length, (hrun.inv h ht).unread_length] using hlength

/-- Settles O41: no cycle of the run breaks the queue, and a queue that begins empty holds what has been accepted and not
yet delivered. -/
theorem fifoOrder : Obligations.FifoOrder := by
  intro σ n hrun h hdirect hnew hover
  have hfifo := hrun.fifo_of_noOverrun h hdirect hnew hover le_rfl
  refine ⟨hfifo, fun hempty => ⟨?_, ?_⟩⟩
  · rw [State.unread_of_isEmpty hempty, List.nil_append] at hfifo
    exact hfifo ▸ List.prefix_append ..
  · rw [accepted_length, delivered_length]
    exact hrun.writes_eq_reads_add_occ h hdirect hnew hover hempty le_rfl

/-! ## The capacity -/

theorem CheckedOnly.noOverrun (hchecked : CheckedOnly σ n) : NoOverrun σ n := fun t ht => by
  simp [State.overrun, hchecked t ht]

/-- The number of `WRITE` commands presented in the first `t` cycles. -/
def attempts (σ : Nat → State) (t : Nat) : Nat := ((List.range t).filter fun k => (σ k).presents .write).length

theorem attempts_succ (σ : Nat → State) (t : Nat) :
    attempts σ (t + 1) = attempts σ t + ((σ t).presents .write).toNat := by
  rw [attempts, attempts, List.range_succ, List.filter_append, List.length_append]
  cases hp : (σ t).presents .write <;> simp [hp]

/-- Runs as R120 has them: from an empty buffer, with checked writes only and without a delivery. -/
structure Filling (σ : Nat → State) (n : Nat) : Prop where
  run : Run σ n
  inv : (σ 0).Inv
  direct : (σ 0).params.viewMode = .direct
  empty : (σ 0).isEmpty = true
  noNew : NoNew σ n
  checked : CheckedOnly σ n
  quiet : ∀ t, t < n → gave σ t = false

/-- The occupancy is the number of elements stored so far, so a `WRITE` finds room iff that is less than `S - 1`. -/
theorem Filling.stored_eq (h : Filling σ n) (ht : t < n) :
    stored σ t = ((σ t).presents .write && decide (writes σ t < (σ 0).params.S - 1)) := by
  have hinv := h.run.inv h.inv ht.le
  have hparams := h.run.params ht.le
  have hreads : reads σ t = 0 := by
    rw [← delivered_length, delivered_eq_nil fun k hk => h.quiet k (hk.trans ht), List.length_nil]
  have hocc : writes σ t = (σ t).occ := by
    rw [h.run.writes_eq_reads_add_occ h.inv h.direct h.noNew h.checked.noOverrun h.empty ht.le, hreads, Nat.zero_add]
  have hroom : (σ t).isFull = !decide (writes σ t < (σ 0).params.S - 1) := by
    have hlt := hinv.occ_lt
    rw [Bool.eq_iff_iff, hinv.isFull_iff_occ, hocc, ← hparams]
    simp only [Bool.not_eq_true', decide_eq_false_iff_not]
    omega
  rw [stored, step_wr_ack_o (h.run t ht), h.checked t ht, State.fullO_direct (hparams ▸ h.direct), hroom, Bool.false_or,
    Bool.not_not]

theorem Filling.writes_eq (h : Filling σ n) (ht : t ≤ n) : writes σ t = min (attempts σ t) ((σ 0).params.S - 1) := by
  induction t with
  | zero => rfl
  | succ t ih =>
    rw [writes_succ, attempts_succ, h.stored_eq ht, ih (Nat.le_of_lt ht)]
    cases (σ t).presents .write with
    | false => rfl
    | true =>
      simp only [Bool.true_and, Bool.toNat, cond_true, Bool.cond_decide]
      split <;> omega

/-- Settles O44: what is stored is what was attempted, up to `S - 1`, so a `WRITE` finds room iff fewer than `S - 1` were
attempted before it. -/
theorem capacityIsOneLessThanTheSlots : Obligations.CapacityIsOneLessThanTheSlots := by
  intro σ n hrun h hdirect hempty hproducer hquiet t ht hwrite
  have hfilling : Filling σ n :=
    { run := hrun, inv := h, direct := hdirect, empty := hempty, quiet := hquiet
      noNew := fun k hk => (State.checked_of_presents (hproducer k hk)).1
      checked := fun k hk => (State.checked_of_presents (hproducer k hk)).2 }
  have hwrites := hfilling.writes_eq ht.le
  rw [hfilling.stored_eq ht, hwrite, Bool.true_and, ← attempts, hwrites]
  simp only [min_lt_iff, lt_irrefl, or_false]

end Sys2Proof.Machine
end

section
/-! A producer that retries (R72, R125): it presents each value until it is accepted, so what is accepted is the front part
of its values; the proof of O52 in both view modes. -/

namespace Sys2Proof.Machine

variable {σ : Nat → State} {n t : Nat} {vs : List Elem}

/-- A retrying producer uses checked commands only. -/
theorem ProducerRetries.checked (h : ProducerRetries σ n vs) : NoNew σ n ∧ CheckedOnly σ n := by
  have hcommand : ∀ t, t < n → (σ t).presents .write = true ∨ (σ t).presents .wnop = true := fun t ht =>
    (h t ht).elim .inr fun hwrite => .inl hwrite.1
  exact ⟨fun t ht => (State.checked_of_presents (hcommand t ht)).1,
    fun t ht => (State.checked_of_presents (hcommand t ht)).2⟩

theorem stored_of_wnop (hstep : step (σ t) = .next (σ (t + 1))) (hidle : (σ t).presents .wnop = true) :
    stored σ t = false := by
  obtain ⟨r, hd, hr⟩ := State.decode_of_presents_w rfl hidle
  rw [stored, step_wr_ack_o hstep, State.presents_w hd hr rfl, State.presents_w hd hr rfl]
  rfl

/-- What is accepted is at every moment the front part of the values. -/
theorem ProducerRetries.accepted_prefix (h : ProducerRetries σ n vs) (hrun : Run σ n) (ht : t ≤ n) :
    accepted σ t <+: vs := by
  induction t with
  | zero => exact List.nil_prefix
  | succ t ih =>
    rw [accepted_succ]
    cases hstored : stored σ t with
    | false => simpa using ih (Nat.le_of_lt ht)
    | true =>
      rcases h t ht with hidle | ⟨-, hnext⟩
      · simp [stored_of_wnop (hrun t ht) hidle] at hstored
      · have htake := List.prefix_iff_eq_take.mp (ih (Nat.le_of_lt ht))
        rw [List.prefix_iff_eq_take]
        simp [List.take_add_one, hnext, ← htake]

/-- Settles O52: under either view the deliveries are the front part of what is accepted, which is the front part of the
values. -/
theorem retryingProducerIsHeardInOrder : Obligations.RetryingProducerIsHeardInOrder := by
  intro σ n vs hrun h hwc hrc hproducer hmode
  obtain ⟨hnew, hchecked⟩ := hproducer.checked
  have hsees : ∃ dr dw, SeesEarlier σ n dr dw := by
    rcases hmode with hdirect | ⟨hexternal, dr, dw, hduty⟩
    · exact ⟨id, id, .of_direct hrun h hdirect hwc hrc hnew hchecked.noOverrun⟩
    · exact ⟨dr, dw, .of_external hrun h hexternal hwc hrc hnew hchecked hduty⟩
  obtain ⟨dr, dw, hsees⟩ := hsees
  have hdelivered : delivered σ n <+: accepted σ n := hsees.fifo le_rfl ▸ List.prefix_append ..
  have hprefix := hdelivered.trans (hproducer.accepted_prefix hrun le_rfl)
  exact ⟨hprefix, hprefix.eq_of_length⟩

end Sys2Proof.Machine
end

section
/-! The index advance (R110, R111, R123) as an addition modulo `S`, and the proofs of O1, O2 and O40. -/

namespace Sys2Proof

/-- Settles O1, by the two branches. -/
theorem advanceIsTheBranch : Obligations.AdvanceIsTheBranch := fun _ _ h =>
  ⟨fun hlast => if_pos hlast, fun hinner => if_neg hinner, adv_lt h⟩

theorem adv_iterate {S i : Nat} (h : i < S) (n : Nat) : (adv S)^[n] i = (i + n) % S := by
  induction n with
  | zero => exact (Nat.mod_eq_of_lt h).symm
  | succ n ih =>
    rw [Function.iterate_succ_apply', ih, adv_eq_mod (Nat.mod_lt _ (by omega)), Nat.mod_add_mod, Nat.add_assoc]

/-- A lap of advances leads back. -/
theorem adv_iterate_lap {S i : Nat} (h : i < S) : (adv S)^[S] i = i := by
  rw [adv_iterate h, Nat.add_mod_right, Nat.mod_eq_of_lt h]

/-- The value before `i` is the one that `S - 1` advances lead to. -/
theorem exists_adv_eq {S i : Nat} (h : i < S) : ∃ j, j < S ∧ adv S j = i := by
  have hS : 0 < S := by omega
  refine ⟨(adv S)^[S - 1] i, adv_iterate h _ ▸ Nat.mod_lt _ hS, ?_⟩
  calc adv S ((adv S)^[S - 1] i)
    _ = (adv S)^[S - 1 + 1] i := (Function.iterate_succ_apply' ..).symm
    _ = i := by rw [Nat.sub_add_cancel hS, adv_iterate_lap h]

theorem adv_ne_self_iff {S i : Nat} (h : i < S) : adv S i ≠ i ↔ 2 ≤ S := by
  unfold adv
  split <;> omega

/-- Settles O2: each clause is a fact about adding modulo `S`. -/
theorem advanceIsModular : Obligations.AdvanceIsModular := by
  intro S i h
  refine ⟨adv_eq_mod h, adv_iterate h, adv_iterate_lap h, fun j _ heq => adv_injective S heq, exists_adv_eq h,
    adv_ne_self_iff h, ?_⟩
  have hzero := adv_ne_self_iff (S := S) (i := 0) (by omega)
  omega

/-- R123: `k` times `S - 1` is as far as going back by `k`, modulo `S`. -/
theorem mul_pred_mod {S : Nat} (hS : 0 < S) (k : Nat) : k * (S - 1) % S = (S - k % S) % S := by
  have hback : S - k % S + k % S = S := Nat.sub_add_cancel (Nat.mod_lt k hS).le
  have hforth : k * (S - 1) + k = k * S := by rw [← Nat.mul_succ, Nat.succ_eq_add_one, Nat.sub_add_cancel hS]
  refine Nat.ModEq.add_right_cancel' k ?_
  calc (k * (S - 1) + k) % S
    _ = 0 := by rw [hforth, Nat.mul_mod_left]
    _ = (S - k % S + k % S) % S := by rw [hback, Nat.mod_self]
    _ = (S - k % S + k) % S := Nat.add_mod_mod ..

namespace Machine

/-- Settles O40: each cursor has advanced once for each of its transfers. -/
theorem cursorsCountTransfers : Obligations.CursorsCountTransfers := by
  intro σ n hrun h hnew
  have hwc := hrun.wc_eq h hnew le_rfl
  have hrc := hrun.rc_eq h hnew le_rfl
  rw [accepted_length, delivered_length]
  refine ⟨hwc, hrc, fun k hwc0 hrc0 hwrites hreads => ⟨?_, ?_⟩⟩
  · rw [hwc, hwc0, hwrites, Nat.zero_add, mul_pred_mod h.pos]
  · rw [hwc, hrc, hwc0, hrc0, hwrites, hreads]

end Machine
end Sys2Proof
end

section
/-! One cycle, side by side (R113 to R117): its commands and its end, what each side does in terms of the command bits, what
an idle side leaves, and the occupancy; the proofs of O13, O17, O19, O21, O26 and O29. -/

namespace Sys2Proof.Machine

/-! ## The commands of a cycle -/

/-- Settles O19: commands that complete make the cycle complete, and two that do are joined. -/
theorem stepRunsTheDecodedCommands : Obligations.StepRunsTheDecodedCommands := by
  refine fun s hp => ⟨fun t hd hnew => step_of_runCommands hp ?_, fun w r a b hd hw hr => step_of_runCommands hp ?_⟩
  · rw [hd]
    exact hnew
  · rw [hd, runCommands, bothSides, hw, hr, joinSides]

theorem decode_has_idle : ∀ cw : CommandWord,
    (decode cw).has .wnop = (!cw.getLsbD 4 && !cw.getLsbD 0) ∧
      (decode cw).has .rnop = (!cw.getLsbD 4 && !cw.getLsbD 2) := by
  decide

theorem State.decode_of_presents_idle {s : State} (hwnop : s.presents .wnop = true) (hrnop : s.presents .rnop = true) :
    decode s.ports.cw = .pair .wnop .rnop := by
  obtain ⟨r, hd, -⟩ := State.decode_of_presents_w rfl hwnop
  rw [State.presents_r hd rfl rfl, decide_eq_true_iff] at hrnop
  rw [hd, hrnop]

/-- Settles O13: the idle commands write their own result bit and nothing else, and a cycle of both joins the two. -/
theorem idleCommandsChangeNothing : Obligations.IdleCommandsChangeNothing := by
  refine ⟨decode_has_idle, fun s => ?_, fun s => ?_, fun s hp hwnop hrnop => ?_⟩
  · have hexec : exec .wnop s = .next (s.setWrAck false) := rfl
    obtain ⟨hread, hcommon, -, -⟩ := writeSideFrame .wnop s _ rfl hexec
    exact ⟨_, hexec, rfl, rfl, fun _ => rfl, hread, hcommon⟩
  · have hexec : exec .rnop s = .next (s.setRdResult none) := rfl
    obtain ⟨hwrite, hcommon, -⟩ := readSideFrame .rnop s _ rfl hexec
    exact ⟨_, hexec, rfl, rfl, hwrite, hcommon⟩
  · have hd := State.decode_of_presents_idle hwnop hrnop
    have hstep := (stepRunsTheDecodedCommands s hp).2 .wnop .rnop _ _ hd rfl rfl
    exact ⟨_, hstep, rfl, rfl, rfl, step_status_outputs hstep⟩

/-- Settles O17, by the two kinds of cycle: an idle command neither stores nor delivers. -/
theorem cursorsMoveByTheirOwnSide : Obligations.CursorsMoveByTheirOwnSide := by
  intro s t h
  obtain ⟨-, ⟨hd, rfl⟩ | ⟨w, r, hd, hw, hr, rfl, -, -⟩⟩ := step_cases h
  · exact ⟨fun _ => ⟨rfl, rfl⟩, fun hnew => by simp [State.presents_sys hd] at hnew⟩
  · refine ⟨fun hnew => by simp [State.presents_new_pair hd hw hr] at hnew, fun _ =>
      ⟨s.wcAfter_cases w, s.rcAfter_cases r, fun hidle => ?_, fun hidle => ?_⟩⟩
    · rw [State.presents_w hd hr rfl, decide_eq_true_iff] at hidle
      exact hidle ▸ ⟨rfl, rfl⟩
    · rw [State.presents_r hd hw rfl, decide_eq_true_iff] at hidle
      exact hidle ▸ rfl

/-! ## The command bits -/

theorem State.Inv.read_storageAfter {s : State} (h : s.Inv) (w : Instr) (a : Nat) :
    (s.storageAfter w).read a =
      if s.stores w = true ∧ a = s.wc then some s.ports.wr_data_i else s.storage.read a := by
  cases hst : s.stores w with
  | false => simp [State.storageAfter, hst]
  | true => simp [State.storageAfter, hst, Memory.read_put_of_wf h.storage h.wc_lt]

/-- Settles O21: what `stores` and `delivers` are in terms of the command bits is the pseudocode's two conditions. In
`EXTERNAL` mode the status outputs of a `NEW` cycle compare with the views, the model's reading (log entry 14). -/
theorem stepIsThePseudocode : Obligations.StepIsThePseudocode := by
  intro s h
  obtain ⟨t, hstep⟩ := h.exists_step
  obtain ⟨hfull, hempty, hwptr, hrptr, -, -, -⟩ := statusOutputs s t hstep
  refine ⟨t, hstep, step_params hstep, hfull, hempty, hwptr, hrptr, ?_⟩
  cases hrst : s.ports.rst_i with
  | true =>
    cases hstep.symm.trans (step_new h.params (decode_of_rst hrst))
    exact ⟨rfl, rfl, rfl, rfl, Memory.read_filled _ _⟩
  | false =>
    have hpair := step_pair h (decode_of_not_rst hrst) (decodeW_format _) (decodeR_format _)
    cases hstep.symm.trans hpair
    have hstore := s.stores_decodeW s.ports.cw
    have hdeliver := s.delivers_decodeR s.ports.cw
    refine ⟨hstore, hdeliver, fun hread => step_rd_data_o hpair (hdeliver.trans hread), ?_, ?_, fun a => ?_⟩
    · exact congrArg (fun b : Bool => if b then adv s.params.S s.wc else s.wc) hstore
    · exact congrArg (fun b : Bool => if b then adv s.params.S s.rc else s.rc) hdeliver
    · have hread := h.read_storageAfter (decodeW (s.ports.cw.extractLsb' 0 2)) a
      rw [hstore] at hread
      exact hread

theorem step_of_not_rst {s t : State} (hrst : s.ports.cw.getLsbD 4 = false) (h : step s = .next t) :
    t = s.afterPair (decodeW (s.ports.cw.extractLsb' 0 2)) (decodeR (s.ports.cw.extractLsb' 2 2)) := by
  have hnew : s.presents .new = false := (decode_has_new _).trans hrst
  obtain ⟨w, r, hd, -, -, rfl, -, -⟩ := step_noNew_cases h hnew
  cases hd.symm.trans (decode_of_not_rst hrst)
  rfl

/-- Settles O26: each side's effect reads the command word in the side's own field only. -/
theorem sidesDoNotInteract : Obligations.SidesDoNotInteract := by
  intro s t t' cw hrst hrst' hstep hstep'
  cases step_of_not_rst hrst hstep
  cases step_of_not_rst (s := s.setCommand cw) hrst' hstep'
  refine ⟨fun hfield => ?_, fun hfield => ?_⟩
  · rw [← hfield]
    exact ⟨rfl, rfl, rfl⟩
  · rw [← hfield]
    exact ⟨rfl, rfl, rfl⟩

/-! ## The occupancy -/

theorem State.Inv.wcAfter_eq_mod {s : State} (h : s.Inv) (w : Instr) :
    s.wcAfter w = (s.wc + (s.stores w).toNat) % s.params.S := by
  rw [State.wcAfter]
  cases s.stores w with
  | false => exact (Nat.mod_eq_of_lt h.wc_lt).symm
  | true => exact adv_eq_mod h.wc_lt

theorem State.Inv.rcAfter_eq_mod {s : State} (h : s.Inv) (r : Instr) :
    s.rcAfter r = (s.rc + (s.delivers r).toNat) % s.params.S := by
  rw [State.rcAfter]
  cases s.delivers r with
  | false => exact (Nat.mod_eq_of_lt h.rc_lt).symm
  | true => exact adv_eq_mod h.rc_lt

theorem State.Inv.rc_add_occ_mod {s : State} (h : s.Inv) : (s.rc + s.occ) % s.params.S = s.wc :=
  add_ahead_mod h.rc_lt h.wc_lt

/-- R116: counted from the read cursor before the cycle, both sides of the law lead to the write cursor after it. -/
theorem State.Inv.occ_afterPair_mod {s : State} (h : s.Inv) (w r : Instr) :
    ((s.afterPair w r).occ + (s.delivers r).toNat) % s.params.S = (s.occ + (s.stores w).toNat) % s.params.S := by
  refine Nat.ModEq.add_left_cancel' s.rc ?_
  calc (s.rc + ((s.afterPair w r).occ + (s.delivers r).toNat)) % s.params.S
    _ = (s.rcAfter r + (s.afterPair w r).occ) % s.params.S := by
      rw [h.rcAfter_eq_mod, Nat.mod_add_mod, Nat.add_right_comm, Nat.add_assoc]
    _ = s.wcAfter w := (h.afterPair w r).rc_add_occ_mod
    _ = (s.wc + (s.stores w).toNat) % s.params.S := h.wcAfter_eq_mod w
    _ = (s.rc + (s.occ + (s.stores w).toNat)) % s.params.S := by
      rw [← h.rc_add_occ_mod, Nat.mod_add_mod, Nat.add_assoc]

/-- Settles O29: the cursors count modulo `S`; in `DIRECT` mode the count wraps in an overrun only, which brings them
together. -/
theorem occupancyLaw : Obligations.OccupancyLaw := by
  intro s t h hstep hnew
  refine ⟨?_, fun hdirect hover => ?_, fun hover => ?_⟩
  · obtain ⟨w, r, -, -, -, rfl, -, -⟩ := step_noNew_cases hstep hnew
    exact h.occ_afterPair_mod w r
  · have hord := step_orderly hstep hdirect hover
    obtain ⟨w, r, -, -, -, rfl, -, -⟩ := step_noNew_cases hstep hnew
    exact hord.occ_afterPair h
  · obtain ⟨-, hwc, -⟩ := overrunLosesAWholeLap s t h hstep hover
    rw [t.occ_eq, hwc, ahead_self]

end Sys2Proof.Machine
end

section
/-! Two corners of `DIRECT` mode: a buffer that has been drained (R122) and an instance of one slot (R131), where a cycle
finds nothing to deliver; the proofs of O45 and O55. -/

namespace Sys2Proof.Machine

variable {σ : Nat → State} {n t : Nat}

/-! ## After a drain -/

theorem Run.storage_succ_of_not_stored (hrun : Run σ n) (hnew : NoNew σ n) (ht : t < n) (hquiet : stored σ t = false) :
    (σ (t + 1)).storage = (σ t).storage := by
  obtain ⟨w, r, -, -, -, hnext⟩ := hrun.afterPair hnew ht
  rw [stored, hnext] at hquiet
  rw [hnext]
  exact if_neg (ne_true_of_eq_false hquiet)

/-- In `DIRECT` mode an empty buffer delivers nothing. -/
theorem Run.gave_eq_false_of_isEmpty (hrun : Run σ n) (hnew : NoNew σ n) (ht : t < n)
    (hdirect : (σ t).params.viewMode = .direct) (hempty : (σ t).rc = (σ t).wc) : gave σ t = false := by
  by_contra hgave
  have := hrun.isEmpty_of_gave_direct hnew ht hdirect (by simpa using hgave)
  simp [(σ t).isEmpty_iff.mpr hempty] at this

/-- A buffer that is empty stays as it is while nothing is stored. -/
theorem Run.unchanged_of_drained (hrun : Run σ n) (hdirect : (σ 0).params.viewMode = .direct) (hnew : NoNew σ n)
    (hempty : (σ 0).rc = (σ 0).wc) (hquiet : ∀ t, t < n → stored σ t = false) (ht : t ≤ n) :
    (σ t).storage = (σ 0).storage ∧ (σ t).wc = (σ 0).wc ∧ (σ t).rc = (σ 0).rc := by
  induction t with
  | zero => exact ⟨rfl, rfl, rfl⟩
  | succ t ih =>
    obtain ⟨hstorage, hwc, hrc⟩ := ih (Nat.le_of_lt ht)
    have hmode : (σ t).params.viewMode = .direct := hrun.params (Nat.le_of_lt ht) ▸ hdirect
    have hgave := hrun.gave_eq_false_of_isEmpty hnew ht hmode (by rw [hwc, hrc, hempty])
    refine ⟨(hrun.storage_succ_of_not_stored hnew ht (hquiet t ht)).trans hstorage, ?_, ?_⟩
    · rw [hrun.wc_succ hnew ht, hquiet t ht]
      exact hwc
    · rw [hrun.rc_succ hnew ht, hgave]
      exact hrc

/-- Settles O45: equally many transfers bring the cursors together again, and there every cycle that does not store leaves
everything as it is. -/
theorem emptyAfterDrain : Obligations.EmptyAfterDrain := by
  refine ⟨fun σ n hrun h _ hnew hempty hcount => ?_, fun σ n hrun h hdirect hnew hempty hquiet t ht => ?_⟩
  · rw [accepted_length, delivered_length] at hcount
    rw [hrun.rc_eq h hnew le_rfl, hrun.wc_eq h hnew le_rfl, hcount, (σ 0).isEmpty_iff.mp hempty]
  · obtain ⟨-, hwc, hrc⟩ := hrun.unchanged_of_drained hdirect hnew hempty hquiet (Nat.le_of_lt ht)
    have hmode : (σ t).params.viewMode = .direct := hrun.params (Nat.le_of_lt ht) ▸ hdirect
    exact ⟨hrun.gave_eq_false_of_isEmpty hnew ht hmode (by rw [hwc, hrc, hempty]),
      hrun.unchanged_of_drained hdirect hnew hempty hquiet ht⟩

/-! ## One slot -/

theorem AW_of_one_slot {p : Params} (hone : p.S = 1) : p.AW = 1 :=
  le_antisymm (Params.AW_le_iff.mpr ⟨le_rfl, by omega⟩) p.one_le_AW

theorem State.Inv.cursors_of_one_slot {s : State} (h : s.Inv) (hone : s.params.S = 1) : s.wc = 0 ∧ s.rc = 0 := by
  have hwc := h.wc_lt
  have hrc := h.rc_lt
  omega

/-- Settles O55: with one slot the only cursor value is `0`, so the buffer is empty and full, and the two status tests of
`DIRECT` mode reject every `WRITE` and every read. -/
theorem oneSlotInstance : Obligations.OneSlotInstance := by
  intro s t h hdirect hone hstep
  obtain ⟨hwc, hrc⟩ := h.cursors_of_one_slot hone
  obtain ⟨hempty, hfull⟩ := h.isEmpty_and_isFull_iff.mpr hone
  obtain ⟨hwc', hrc'⟩ := (stepKeepsTheInvariant s t h hstep).cursors_of_one_slot (step_params hstep ▸ hone)
  have hvalid : t.out.rd_valid_o = false := by
    rw [step_rd_valid_o hstep, State.emptyO_direct hdirect, hempty, Bool.not_true, Bool.and_false]
  have hack : t.out.wr_ack_o = s.presents .writeUnchecked := by
    rw [step_wr_ack_o hstep, State.fullO_direct hdirect, hfull, Bool.not_true, Bool.and_false, Bool.or_false]
  refine ⟨AW_of_one_slot hone, hwc, hrc, hempty, hfull, hwc', hrc', hvalid, hack, fun hunchecked => ?_, fun hnew => ?_⟩
  · obtain ⟨r, hd, hr⟩ := State.decode_of_presents_w rfl hunchecked
    have hnew : s.presents .new = false := State.presents_new_pair hd rfl hr
    obtain ⟨-, hslot⟩ := (storeAndPublishTogether s t hstep hnew).1 (hack.trans hunchecked)
    exact hwc ▸ hslot
  · have hrst : s.ports.cw.getLsbD 4 = true := (decode_has_new _).symm.trans hnew
    cases hstep.symm.trans (step_new h.params (decode_of_rst hrst))
    exact (Memory.read_filled ..).trans (if_pos h.pos)

end Sys2Proof.Machine
end

section
/-! No exception (R140, R141, R144): every run goes on, a negative outcome leaves its own side as it is, and a `NEW`
cycle reads `fill_i` only; the proofs of O37, O56 and O28. -/

namespace Sys2Proof.Machine

/-! ## Every run goes on -/

/-- A run answers what the run of one cycle less answers from the next state. -/
theorem run_succ_of_step {M : Host.Core} {s t : M.State} (h : M.step s = .next t) (n : Nat) :
    M.run (n + 1) s = M.run n t := by
  rw [Host.Core.run, h]

/-- Settles O37, by induction on the number of cycles: a state of the invariant answers a next state, which meets the
invariant again. -/
theorem noRunStops : Obligations.NoRunStops := by
  intro s n h
  induction n generalizing s with
  | zero => exact ⟨s, rfl, h⟩
  | succ n ih =>
    obtain ⟨t, hstep⟩ := h.exists_step
    rw [run_succ_of_step (M := Sys2Proof.core) hstep]
    exact ih t (stepKeepsTheInvariant s t h hstep)

/-! ## Negative outcomes -/

/-- R141: a cycle that stores nothing leaves the storage and the write cursor, unless it is a `NEW` cycle. -/
theorem step_write_side_of_not_ack {s t : State} (h : step s = .next t) (hnew : s.presents .new = false)
    (hack : t.out.wr_ack_o = false) : t.storage = s.storage ∧ t.wc = s.wc := by
  obtain ⟨w, r, -, -, -, rfl, -, -⟩ := step_noNew_cases h hnew
  have hstore : ¬ s.stores w = true := ne_true_of_eq_false hack
  exact ⟨if_neg hstore, if_neg hstore⟩

/-- R141: a cycle that delivers nothing leaves the read cursor, unless it is a `NEW` cycle. -/
theorem step_rc_of_not_valid {s t : State} (h : step s = .next t) (hnew : s.presents .new = false)
    (hvalid : t.out.rd_valid_o = false) : t.rc = s.rc := by
  obtain ⟨w, r, -, -, -, rfl, -, -⟩ := step_noNew_cases h hnew
  have hdeliver : ¬ s.delivers r = true := ne_true_of_eq_false hvalid
  exact if_neg hdeliver

/-- `NEW` stands alone in its cycle. -/
theorem State.presents_new_of_presentsRead {s : State} (h : s.presentsRead = true) : s.presents .new = false := by
  rcases decode_cases s.ports.cw with ⟨-, hd⟩ | ⟨-, w, r, hd, hw, hr⟩
  · simp [State.presentsRead, State.presents_sys hd] at h
  · exact State.presents_new_pair hd hw hr

/-- Settles O56: a rejected `WRITE` saw `full_o = 1` and a read without a value `empty_o = 1`, which in `DIRECT` mode
are the conditions themselves, and one slot is all that makes a buffer both full and empty (R27). -/
theorem negativeOutcomesChangeNothing : Obligations.NegativeOutcomesChangeNothing := by
  intro s t h hstep
  refine ⟨fun hwrite hack => ?_, fun hread hvalid => ?_, fun hdirect hwrite hread hack hvalid => ?_⟩
  · exact step_write_side_of_not_ack hstep (State.checked_of_presents (.inl hwrite)).1 hack
  · exact step_rc_of_not_valid hstep (State.presents_new_of_presentsRead hread) hvalid
  · obtain ⟨-, -, -, -, hstatus, hwriteResult, hreadResult⟩ := statusOutputs s t hstep
    obtain ⟨hfull, hempty⟩ := hstatus hdirect
    have hisFull : s.isFull = true := by simpa [hack, hfull] using hwriteResult hwrite
    have hisEmpty : s.isEmpty = true := by simpa [hvalid, hempty] using hreadResult hread
    exact h.isEmpty_and_isFull_iff.mp ⟨hisEmpty, hisFull⟩

/-! ## `NEW` beside other port values -/

/-- A `NEW` cycle stores no `wr_data_i`. -/
theorem State.stores_of_presents_new {s : State} (hd : decode s.ports.cw = .sys .new) {w : Instr}
    (hw : s.presents w = true) : s.stores w = false := by
  rw [State.presents_sys hd, decide_eq_true_iff] at hw
  exact hw ▸ rfl

/-- Settles O28: both cycles decode as `NEW`, which fills the slots with the same `fill_i`. In `DIRECT` mode the status
tests read no port, so the two steps are the same; in `EXTERNAL` mode `full_o` and `empty_o` compare with the views and
may differ, the model's reading (log entry 14). -/
theorem newOverridesTheOtherPorts : Obligations.NewOverridesTheOtherPorts := by
  intro s i hp hrst hrst' hfill
  have hd := decode_of_rst hrst
  have hd' := decode_of_rst hrst'
  have hstep := step_new hp hd
  have hstep' := step_new (s := { s with ports := i }) hp hd'
  refine ⟨_, _, hstep, hstep', congrArg (Memory.filled s.params.S) hfill, rfl, rfl, rfl, rfl, fun hdirect => ?_⟩
  have hsame : step { s with ports := i } = step s := by
    refine step_withPorts (hd'.trans hd.symm) ?_ ?_ (fun _ => hfill) (fun w hw hstore => ?_)
    · simp [State.fullO, State.rv, hdirect]
    · simp [State.emptyO, State.wv, hdirect]
    · simp [State.stores_of_presents_new hd hw] at hstore
  exact Host.Outcome.next.inj (hstep'.symm.trans (hsame.trans hstep))

end Sys2Proof.Machine
end

section
/-! Stable conditions (R168, R173): the parameters and the script of a run, where `WRITE_UNCHECKED` equals `WRITE` (R165),
and that a condition a side does not see comes up only by that side's own transfers; the proofs of O39, O14, O49 and
O50. -/

namespace Sys2Proof.Machine

/-! ## The script of the ports -/

theorem State.nextInputs_of_env_cons {s : State} {i : Inputs} {rest : List Inputs} (he : s.env = i :: rest) :
    s.nextInputs = i := by
  rw [State.nextInputs, he]

/-- Every cycle ends with the loading of the next port values. -/
theorem step_ports_env {s t : State} (h : step s = .next t) : t.ports = s.nextInputs ∧ t.env = s.env.tail := by
  obtain ⟨-, ⟨-, rfl⟩ | ⟨w, r, -, -, -, rfl, -, -⟩⟩ := step_cases h
  · exact ⟨rfl, rfl⟩
  · exact ⟨rfl, rfl⟩

/-- Settles O39: no cycle writes a parameter, and each takes the first scripted port values off the script. -/
theorem parametersNeverChange : Obligations.ParametersNeverChange := by
  intro s t h
  obtain ⟨hports, henv⟩ := step_ports_env h
  exact ⟨step_params h, fun i rest he =>
    ⟨hports.trans (State.nextInputs_of_env_cons he), henv.trans (congrArg List.tail he)⟩⟩

/-! ## `WRITE_UNCHECKED` beside `WRITE` -/

/-- What a write-side command with a slot shows on `wr_ack_o`. -/
theorem State.Inv.exec_wr_ack_o {s t : State} (h : s.Inv) {w : Instr} (hw : w.format = .w) (hnext : exec w s = .next t) :
    t.out.wr_ack_o = s.stores w := by
  cases (exec_eq_afterWriteSide hw h.read_wc_isSome).symm.trans hnext
  rfl

/-- Settles O14: the two commands differ in whether they store only where `full_o = 1`, and there `wr_ack_o` tells. -/
theorem uncheckedWriteEqualsWriteUnlessFull : Obligations.UncheckedWriteEqualsWriteUnlessFull := by
  refine fun s => ⟨fun hfull => ?_, fun h hfull heq => ?_⟩
  · have hsame : s.stores .writeUnchecked = s.stores .write := by rw [State.stores_write, hfull]; rfl
    rw [exec_write_side s rfl, exec_write_side s rfl, hsame]
  · have hnext := exec_eq_afterWriteSide (w := .writeUnchecked) rfl h.read_wc_isSome
    have hack : true = s.stores .write := h.exec_wr_ack_o rfl (heq.symm.trans hnext)
    simp [State.stores_write, hfull] at hack

/-! ## Conditions that stay unseen -/

variable {σ : Nat → State} {n m t : Nat} {dr dw : Nat → Nat}

/-- A condition `c` that no quiet cycle brings up stays down over quiet cycles. -/
theorem stays_down {c moves : Nat → Bool}
    (hcycle : ∀ t, t < n → c t = false → moves t = false → c (t + 1) = false) (hmn : m ≤ n) (hdown : c m = false)
    (hquiet : ∀ t, m ≤ t → t < n → moves t = false) : c n = false := by
  induction n, hmn using Nat.le_induction with
  | base => exact hdown
  | succ n hmn ih =>
    have hbefore : c n = false := ih (fun t ht => hcycle t (by omega)) (fun t hmt ht => hquiet t hmt (by omega))
    exact hcycle n n.lt_succ_self hbefore (hquiet n hmn n.lt_succ_self)

/-! ### In `DIRECT` mode -/

/-- Without a store a buffer does not become full: a delivery leaves an empty slot behind it. -/
theorem Run.isFull_succ (hrun : Run σ n) (hnew : NoNew σ n) (hdirect : (σ t).params.viewMode = .direct) (ht : t < n)
    (hroom : (σ t).isFull = false) (hquiet : stored σ t = false) : (σ (t + 1)).isFull = false := by
  have hwc : (σ (t + 1)).wc = (σ t).wc := by rw [hrun.wc_succ hnew ht, hquiet]; rfl
  have hrc := hrun.rc_succ hnew ht
  rw [← Bool.not_eq_true, State.isFull_iff, step_params (hrun t ht), hwc, hrc]
  cases hgave : gave σ t with
  | false => rwa [if_neg Bool.false_ne_true, ← State.isFull_iff, Bool.not_eq_true]
  | true =>
    rw [if_pos rfl]
    intro hadv
    have hempty : (σ t).isEmpty = true := (σ t).isEmpty_iff.mpr (adv_injective _ hadv).symm
    cases (hrun.isEmpty_of_gave_direct hnew ht hdirect hgave).symm.trans hempty

/-- Without a delivery a buffer becomes empty by an overrun only: a store finds room, and fills a slot. -/
theorem Run.isEmpty_succ (hrun : Run σ n) (hnew : NoNew σ n) (hdirect : (σ t).params.viewMode = .direct) (ht : t < n)
    (hover : (σ t).overrun = false) (hunread : (σ t).isEmpty = false) (hquiet : gave σ t = false) :
    (σ (t + 1)).isEmpty = false := by
  have hrc : (σ (t + 1)).rc = (σ t).rc := by rw [hrun.rc_succ hnew ht, hquiet]; rfl
  rw [← Bool.not_eq_true, State.isEmpty_iff, hrc, hrun.wc_succ hnew ht]
  cases hstored : stored σ t with
  | false => rwa [if_neg Bool.false_ne_true, ← State.isEmpty_iff, Bool.not_eq_true]
  | true =>
    rw [if_pos rfl]
    intro hlap
    have hroom := (hrun.room_of_noOverrun hnew hdirect hover ht hstored).resolve_right (by simp [hquiet])
    cases (State.fullO_direct hdirect ▸ hroom).symm.trans ((σ t).isFull_iff.mpr hlap.symm)

/-- Settles O49: in `DIRECT` mode the flags are the conditions, and no quiet cycle brings one up. -/
theorem seenConditionsAreStable : Obligations.SeenConditionsAreStable := by
  intro σ n hrun h hdirect hnew
  have hmode : ∀ {t}, t ≤ n → (σ t).params.viewMode = .direct := fun ht => hrun.params ht ▸ hdirect
  rw [State.fullO_direct hdirect, State.fullO_direct (hmode le_rfl), State.emptyO_direct hdirect,
    State.emptyO_direct (hmode le_rfl)]
  refine ⟨fun hroom hquiet => ?_, fun hunread hquiet hover => ?_⟩
  · exact stays_down (c := fun t => (σ t).isFull) (fun t ht => hrun.isFull_succ hnew (hmode ht.le) ht) n.zero_le hroom
      fun t _ => hquiet t
  · exact stays_down (c := fun t => (σ t).isEmpty) (fun t ht => hrun.isEmpty_succ hnew (hmode ht.le) ht (hover t ht))
      n.zero_le hunread fun t _ => hquiet t

/-! ### With stale views -/

namespace SeesEarlier

/-- The producer's flag compares the stores with the deliveries it sees, and those only grow. -/
theorem fullO_succ (h : SeesEarlier σ n dr dw) (ht : t < n) (hroom : (σ t).fullO = false) (hquiet : stored σ t = false) :
    (σ (t + 1)).fullO = false := by
  have hb := h.withinViews ht.le
  have hbound := hb.behindReads
  have hne := (hb.fullO_iff h ht.le).not.mp (ne_true_of_eq_false hroom)
  have hseen := reads_mono σ (h.forward t ht).1
  rw [← Bool.not_eq_true, (h.withinViews (t := t + 1) ht).fullO_iff h ht, writes_succ, hquiet, step_params (h.run t ht),
    Bool.toNat_false]
  omega

/-- The consumer's flag compares the deliveries with the stores it sees, and those only grow. -/
theorem emptyO_succ (h : SeesEarlier σ n dr dw) (ht : t < n) (hunread : (σ t).emptyO = false)
    (hquiet : gave σ t = false) : (σ (t + 1)).emptyO = false := by
  have hb := h.withinViews ht.le
  have hbound := hb.behindWrites
  have hne := (hb.emptyO_iff h ht.le).not.mp (ne_true_of_eq_false hunread)
  have hseen := writes_mono σ (h.forward t ht).2
  rw [← Bool.not_eq_true, (h.withinViews (t := t + 1) ht).emptyO_iff h ht, reads_succ, hquiet, Bool.toNat_false]
  omega

end SeesEarlier

/-- Settles O50: within R57's bounds the flags compare counts of transfers, of which a quiet side's own count stands still
and the one it sees does not go back. -/
theorem seenConditionsAreStableWithStaleViews : Obligations.SeenConditionsAreStableWithStaleViews := by
  intro σ n m dr dw hrun hinv hmode hwc hrc hnew hchecked hduty hmn
  have h := SeesEarlier.of_external hrun hinv hmode hwc hrc hnew hchecked hduty
  exact ⟨stays_down (c := fun t => (σ t).fullO) (fun _ => h.fullO_succ) hmn,
    stays_down (c := fun t => (σ t).emptyO) (fun _ => h.emptyO_succ) hmn⟩

end Sys2Proof.Machine
end
